-- ==== Sys2Proof/Word.lean ====
section
/-! DEFINITION. The word types of CORE: the 32-bit bus word, the 5-bit register address, the 14-bit time value and
the 38-bit operation word of the opcode table (spec/00_scope.md R7, spec/30_encoding.md R80). -/

namespace Sys2Proof

/-- A register-bus data word, DATA_W = 32 (R7). -/
abbrev Word := BitVec 32

/-- A register address, ADDR_W = 5 (R7, R45). -/
abbrev Addr := BitVec 5

/-- A time value, TW = 14: window bounds, cycle_time, timestamps, NCycles, CycleLength (R7). -/
abbrev Time := BitVec 14

/-- One bus operation as the opcode table writes it: op[37] direction, op[36:32] address, op[31:0] data (R80). -/
abbrev OpWord := BitVec 38

end Sys2Proof
end

