-- ==== Sys2Proof/Syntax.lean ====
section
/-! DEFINITION. The operations of CORE: one constructor per decoded register-bus operation of spec/30_encoding.md R93
and spec/opcode_table.json. The rows WR_IGNORED and RD_ZERO, which differ only in their address, share a constructor
that holds the address; the row of address 0x0F has one of its own because N_OUT = 4 gives it a register (R92). -/

namespace Sys2Proof

/-- One register-bus operation (R93). Operands are the fields R91 takes out of the written word; ignored bits are
dropped (R81). The timing rows carry the name the default table (N_OUT = 3) gives their address. -/
inductive Instr where
  /-- write 0x00, Config (R82, R111) -/
  | wrConfig (enable isMaster standalone : Bool)
  /-- write 0x01, Run (R83, R112) -/
  | wrRun (maxRunTime : Word)
  /-- write 0x02, CycleLength (R84, R113) -/
  | wrCycleLength (cycleLength : Time)
  /-- write 0x03, Heralds: the 20 bits a layout reads (R85, R86, R114) -/
  | wrHeralds (packed : BitVec 20)
  /-- write 0x08, TimingWindow of win_p[0] (R87, R115) -/
  | wrTimingOut0 (tStart tEnd : Time)
  /-- write 0x09, TimingWindow of win_p[1] -/
  | wrTimingOut1 (tStart tEnd : Time)
  /-- write 0x0A, TimingWindow of win_p[2] -/
  | wrTimingOut2 (tStart tEnd : Time)
  /-- write 0x0B, TimingWindow of win_p[3]: input gate 0, or output 3 when N_OUT = 4 (R92) -/
  | wrTimingIn0 (tStart tEnd : Time)
  /-- write 0x0C, TimingWindow of win_p[4]: input gate 1, or input gate 0 when N_OUT = 4 -/
  | wrTimingIn1 (tStart tEnd : Time)
  /-- write 0x0D, TimingWindow of win_p[5]: input gate 2, or input gate 1 when N_OUT = 4 -/
  | wrTimingIn2 (tStart tEnd : Time)
  /-- write 0x0E, TimingWindow of win_p[6]: input gate 3, or input gate 2 when N_OUT = 4 -/
  | wrTimingIn3 (tStart tEnd : Time)
  /-- write 0x0F: WR_IGNORED when N_OUT = 3, TimingWindow of win_p[7] (input gate 3) when N_OUT = 4 (R92, R119) -/
  | wrAddr0F (tStart tEnd : Time)
  /-- a write to any other address (R119) -/
  | wrIgnored (addr : Addr)
  /-- read 0x10, Status (R88, R116) -/
  | rdStatus
  /-- read 0x11, NCycles (R89, R117) -/
  | rdNcycles
  /-- read 0x18, Timestamp 0 (R90, R118) -/
  | rdTimestamp0
  /-- read 0x19, Timestamp 1 -/
  | rdTimestamp1
  /-- read 0x1A, Timestamp 2 -/
  | rdTimestamp2
  /-- read 0x1B, Timestamp 3 -/
  | rdTimestamp3
  /-- read 0x1C, Timestamp 4 -/
  | rdTimestamp4
  /-- a read of any other address (R120) -/
  | rdZero (addr : Addr)
deriving DecidableEq, Repr

end Sys2Proof
end

