-- ==== Sys2Proof/WellFormed.lean ====
section
/-! DEFINITION. Which instruction terms stand for an operation the bus can carry: the address a reserved write or
read holds is one of the reserved space of spec/30_encoding.md R94. Every other term is well formed, whatever its
operands: any bit pattern is stored as it stands (R91). -/

namespace Sys2Proof

/-- The write addresses that are reserved for both values of N_OUT: 0x04 to 0x07 and 0x10 to 0x1F (R94(a)).
Address 0x0F is wrAddr0F. -/
def reservedWrite (a : Addr) : Bool :=
  (decide (4 ≤ a.toNat) && decide (a.toNat ≤ 7)) || decide (16 ≤ a.toNat)

/-- The reserved read addresses: 0x00 to 0x0F, 0x12 to 0x17 and 0x1D to 0x1F (R94(b)). -/
def reservedRead (a : Addr) : Bool :=
  decide (a.toNat ≤ 15) || (decide (18 ≤ a.toNat) && decide (a.toNat ≤ 23)) || decide (29 ≤ a.toNat)

/-- The term stands for an operation of R93. -/
def Instr.wf : Instr → Bool
  | .wrIgnored a => reservedWrite a
  | .rdZero a => reservedRead a
  | .wrConfig _ _ _ => true
  | .wrRun _ => true
  | .wrCycleLength _ => true
  | .wrHeralds _ => true
  | .wrTimingOut0 _ _ => true
  | .wrTimingOut1 _ _ => true
  | .wrTimingOut2 _ _ => true
  | .wrTimingIn0 _ _ => true
  | .wrTimingIn1 _ _ => true
  | .wrTimingIn2 _ _ => true
  | .wrTimingIn3 _ _ => true
  | .wrAddr0F _ _ => true
  | .rdStatus => true
  | .rdNcycles => true
  | .rdTimestamp0 => true
  | .rdTimestamp1 => true
  | .rdTimestamp2 => true
  | .rdTimestamp3 => true
  | .rdTimestamp4 => true

end Sys2Proof
end

