-- ==== Sys2Proof/Decode.lean ====
section
/-! DEFINITION. The decode of spec/30_encoding.md R93 over the operation word of R80, the operation the bus ports
present (spec/10_state.md R20), and the encoder written from the same formats R82 to R87. -/

namespace Sys2Proof

/-- Why an operation word is none of the table's: the reasons are R80's. -/
inductive DecodeError where
  /-- a read whose data bits are not all 0: R80's mask of a read row covers all 38 bits -/
  | readDataNotZero
  /-- a number of more than 38 bits: every operation has one length (R80, R96) -/
  | tooWide
deriving DecidableEq, Repr

/-- The t_start field of a TimingWindow word (R87). -/
def windowStart (w : Word) : Time := w.extractLsb' 0 14

/-- The t_end field of a TimingWindow word (R87). -/
def windowEnd (w : Word) : Time := w.extractLsb' 14 14

/-- R93, dir = write, with the fields of R91; ignored bits are dropped (R81). -/
def decodeWrite (a : Addr) (w : Word) : Instr :=
  match a.toNat with
  | 0x00 => .wrConfig (w.getLsbD 0) (w.getLsbD 1) (w.getLsbD 2)
  | 0x01 => .wrRun w
  | 0x02 => .wrCycleLength (w.extractLsb' 0 14)
  | 0x03 => .wrHeralds (w.extractLsb' 0 20)
  | 0x08 => .wrTimingOut0 (windowStart w) (windowEnd w)
  | 0x09 => .wrTimingOut1 (windowStart w) (windowEnd w)
  | 0x0A => .wrTimingOut2 (windowStart w) (windowEnd w)
  | 0x0B => .wrTimingIn0 (windowStart w) (windowEnd w)
  | 0x0C => .wrTimingIn1 (windowStart w) (windowEnd w)
  | 0x0D => .wrTimingIn2 (windowStart w) (windowEnd w)
  | 0x0E => .wrTimingIn3 (windowStart w) (windowEnd w)
  | 0x0F => .wrAddr0F (windowStart w) (windowEnd w)
  | _ => .wrIgnored a

/-- R93, dir = read. -/
def decodeRead (a : Addr) : Instr :=
  match a.toNat with
  | 0x10 => .rdStatus
  | 0x11 => .rdNcycles
  | 0x18 => .rdTimestamp0
  | 0x19 => .rdTimestamp1
  | 0x1A => .rdTimestamp2
  | 0x1B => .rdTimestamp3
  | 0x1C => .rdTimestamp4
  | _ => .rdZero a

/-- op[37]: 1 for a write (R80). -/
def opIsWrite (op : OpWord) : Bool := op.getLsbD 37

/-- op[36:32]: the address (R80). -/
def opAddr (op : OpWord) : Addr := op.extractLsb' 32 5

/-- op[31:0]: the write data (R80). -/
def opData (op : OpWord) : Word := op.extractLsb' 0 32

/-- The decode of an operation word, total: a word no row of the table matches is rejected by name (R80, R93). -/
def decode (op : OpWord) : Except DecodeError Instr :=
  if opIsWrite op then .ok (decodeWrite (opAddr op) (opData op))
  else if opData op = 0 then .ok (decodeRead (opAddr op))
  else .error .readDataNotZero

/-- The decode of a number read as an operation word. -/
def decodeNat (w : Nat) : Except DecodeError Instr :=
  if w < 2 ^ 38 then decode (BitVec.ofNat 38 w) else .error .tooWide

/-- The instruction of an opcode-table word w given by its low nbits bits, every bit above them 0. -/
def decodeTableWord (nbits w : Nat) : Option Instr := (decodeNat (w % 2 ^ nbits)).toOption

/-- The operation the ports bus_op, bus_addr and bus_wdata present in a tick: bus_op 1 is a write, 2 a read, and 0 and
3 are no operation (R20, R94(d)). A read ignores bus_wdata (R260). -/
def busOperation (op : BitVec 2) (a : Addr) (w : Word) : Option Instr :=
  match op.toNat with
  | 1 => some (decodeWrite a w)
  | 2 => some (decodeRead a)
  | _ => none

/-- A write's operation word (R80): the direction bit, the address above the data, the data. -/
def encodeWrite (a : Addr) (w : Word) : OpWord :=
  (1#38 <<< 37) ||| (a.zeroExtend 38 <<< 32) ||| w.zeroExtend 38

/-- A read's operation word (R80): its data bits are 0. -/
def encodeRead (a : Addr) : OpWord := a.zeroExtend 38 <<< 32

/-- The Config word (R82), ignored bits 0: en | ms<<1 | sa<<2. -/
def configWord (enable isMaster standalone : Bool) : Word :=
  (BitVec.ofBool enable).zeroExtend 32 ||| ((BitVec.ofBool isMaster).zeroExtend 32 <<< 1) |||
    ((BitVec.ofBool standalone).zeroExtend 32 <<< 2)

/-- The CycleLength word (R84), ignored bits 0. -/
def cycleLengthWord (l : Time) : Word := l.zeroExtend 32

/-- The Heralds word over its 20 packed bits (R85), ignored bits 0. -/
def heraldsWord (packed : BitVec 20) : Word := packed.zeroExtend 32

/-- The TimingWindow word (R87), ignored bits 0: s | e<<14. -/
def windowWord (tStart tEnd : Time) : Word := tStart.zeroExtend 32 ||| (tEnd.zeroExtend 32 <<< 14)

/-- The operation word of an instruction, from the formats R80 and R82 to R87, with every ignored bit 0. -/
def encode : Instr → OpWord
  | .wrConfig e m s => encodeWrite 0x00 (configWord e m s)
  | .wrRun t => encodeWrite 0x01 t
  | .wrCycleLength l => encodeWrite 0x02 (cycleLengthWord l)
  | .wrHeralds p => encodeWrite 0x03 (heraldsWord p)
  | .wrTimingOut0 s e => encodeWrite 0x08 (windowWord s e)
  | .wrTimingOut1 s e => encodeWrite 0x09 (windowWord s e)
  | .wrTimingOut2 s e => encodeWrite 0x0A (windowWord s e)
  | .wrTimingIn0 s e => encodeWrite 0x0B (windowWord s e)
  | .wrTimingIn1 s e => encodeWrite 0x0C (windowWord s e)
  | .wrTimingIn2 s e => encodeWrite 0x0D (windowWord s e)
  | .wrTimingIn3 s e => encodeWrite 0x0E (windowWord s e)
  | .wrAddr0F s e => encodeWrite 0x0F (windowWord s e)
  | .wrIgnored a => encodeWrite a 0
  | .rdStatus => encodeRead 0x10
  | .rdNcycles => encodeRead 0x11
  | .rdTimestamp0 => encodeRead 0x18
  | .rdTimestamp1 => encodeRead 0x19
  | .rdTimestamp2 => encodeRead 0x1A
  | .rdTimestamp3 => encodeRead 0x1B
  | .rdTimestamp4 => encodeRead 0x1C
  | .rdZero a => encodeRead a

end Sys2Proof
end

