-- ==== Sys2Proof/Config.lean ====
section
/-! DEFINITION. What an implementation fixes (the three open parameters of spec/00_scope.md R9) and the free values:
constants without a body, of which nothing can be proved but what their types say. -/

namespace Sys2Proof

/-- N_OUT, the number of output channels: 3 by default, 4 in the named variant (R8, R9). -/
inductive NOut where
  | three
  | four
deriving DecidableEq, Repr

/-- One step in the description of a herald layout: an exchange of two bit positions, or of two words, among the low
20 bits of a Heralds word (R86, log 6). -/
inductive LayoutStep where
  /-- bits i and j of every word trade places -/
  | swapBits (i j : Fin 20)
  /-- the words a and b trade places; every other word stays -/
  | swapWords (a b : BitVec 20)
deriving DecidableEq, Repr

/-- HERALD_LAYOUT, the function parameter herald_unpack of R9 and R86 as plain data: layout A (R85), or another
bijection from the low 20 bits to the eight fields, given as steps done on the word before layout A reads it. Every such
bijection has a description of this form, and every description is such a bijection (log 6). -/
inductive HeraldLayout where
  | layoutA
  | other (steps : List LayoutStep)
deriving DecidableEq, Repr

/-- The implementation parameters of R9 that stay open. They are fixed for a machine: no step changes them (log 5). -/
structure Params where
  /-- N_OUT (R8) -/
  nOut : NOut
  /-- HERALD_LAYOUT (R86) -/
  heraldLayout : HeraldLayout
  /-- SYNC_FILTER, an integer that is at least 1 (R9, R235) -/
  syncFilter : Nat
deriving DecidableEq, Repr

/-- The defaults of R9: N_OUT = 3, layout A, SYNC_FILTER = 2. -/
def Params.default : Params := { nOut := .three, heraldLayout := .layoutA, syncFilter := 2 }

/-- The legal values of R9: any integer that is at least 1 for SYNC_FILTER. -/
def Params.wf (p : Params) : Bool := decide (1 ≤ p.syncFilter)

namespace Config

/-- FREE VALUE (log 2). The levels of in[4:0] sampled at the edge of the n-th tick, in a tick for which the state's
script lists no input (R10: the environment drives them). One sequence for every instance, by the model's choice: a
pair's instances with equal counts sample alike past both scripts (log 19). -/
opaque freeIn : Nat → BitVec 5

/-- FREE VALUE (log 2). The level of sync_i sampled at the edge of the n-th tick, in a tick for which the state's
script lists no input (R10: the partner, or nothing, drives it). -/
opaque freeSync : Nat → Bool

end Config

end Sys2Proof
end

