-- ==== Sys2Proof/Machine/State.lean ====
section
/-! DEFINITION. Everything spec/10_state.md R48 gives CORE, with its reset values, the implementation parameters, and
the model's own fields: the inputs still to come, the word on bus_rdata and a count for free values. Plain data. -/

namespace Sys2Proof.Machine

/-- No fault exists: CORE raises nothing across the register boundary and step is total (R280, R281). The type is
empty, so a step that faults cannot be written. -/
inductive Fault where
deriving DecidableEq, Repr

/-- Why the model would not run an instruction. -/
inductive Refusal where
  /-- raised by an arm of exec for an instruction that has no meaning yet; safe, since nothing is then proved of it.
  No arm raises it: every instruction has its meaning. -/
  | notModelled (mnemonic : String)
deriving DecidableEq, Repr

/-- Four like things, index 0 to 3: the herald slots (R23). -/
structure Quad (α : Type) where
  e0 : α
  e1 : α
  e2 : α
  e3 : α
deriving DecidableEq, Repr

/-- Five like things, index 0 to 4: the timestamps (R42, R43). -/
structure Quint (α : Type) where
  e0 : α
  e1 : α
  e2 : α
  e3 : α
  e4 : α
deriving DecidableEq, Repr

/-- Eight like things, index 0 to 7: the windows (R24). -/
structure Octet (α : Type) where
  e0 : α
  e1 : α
  e2 : α
  e3 : α
  e4 : α
  e5 : α
  e6 : α
  e7 : α
deriving DecidableEq, Repr

/-- TimingWindow (R24, R87). -/
structure Window where
  tStart : Time
  tEnd : Time
deriving DecidableEq, Repr

/-- One herald slot: her_pat[k] and her_en[k] (R23). -/
structure Herald where
  pattern : BitVec 4
  enabled : Bool
deriving DecidableEq, Repr

/-- One bank of configuration: the persisted one (R21 to R24) or the active one (R30). -/
structure Bank where
  /-- cfg_enable -/
  enable : Bool
  /-- cfg_master -/
  isMaster : Bool
  /-- cfg_standalone -/
  standalone : Bool
  /-- cyclen_p, or L_a -/
  cycleLength : Time
  /-- her_pat[0..3], her_en[0..3] -/
  heralds : Quad Herald
  /-- win[0..N_OUT+3]; place 7 exists only when N_OUT = 4, and is never written otherwise (log 9) -/
  windows : Octet Window
deriving DecidableEq, Repr

/-- The held states of the sequencer (R33, R170). -/
inductive Phase where
  | idle
  | armed
  | running
deriving DecidableEq, Repr

/-- exit_cause (R37). The codes 5 to 7 are never produced and have no name here (R37, log 13). -/
inductive ExitCause where
  | none
  /-- reserved; no rule produces it (R191) -/
  | complete
  | timeout
  | heralded
  | refused
deriving DecidableEq, Repr

/-- What CORE samples at the edge that ends one tick: I_t of R260, as the ports of R20 carry it, with rst. -/
structure TickInput where
  rst : Bool
  /-- bus_op: 0 none, 1 write, 2 read, 3 as none (R20) -/
  op : BitVec 2
  /-- bus_addr -/
  addr : Addr
  /-- bus_wdata -/
  wdata : Word
  /-- in[4:0] -/
  inp : BitVec 5
  syncI : Bool
deriving DecidableEq, Repr

/-- The whole machine: R48, the parameters of R9, and the model's own fields at the end. -/
structure State where
  /-- the implementation parameters (R9); no step writes them (log 5) -/
  params : Params
  /-- the registers that writes update (R21 to R24) -/
  persisted : Bank
  /-- what the running sequence reads (R30) -/
  active : Bank
  /-- T_a (R31) -/
  maxRunTime : BitVec 32
  /-- phase (R33) -/
  phase : Phase
  /-- cycle_time (R34) -/
  cycleTime : Time
  /-- elapsed (R35) -/
  elapsed : BitVec 32
  /-- n_cycles (R36) -/
  nCycles : Time
  /-- exit_cause (R37) -/
  exitCause : ExitCause
  /-- herald_index (R38) -/
  heraldIndex : BitVec 2
  /-- in_prev[4:0] (R40) -/
  inPrev : BitVec 5
  /-- sig[3:0] (R41) -/
  sig : BitVec 4
  /-- seen4 (R41) -/
  seen4 : Bool
  /-- ts_work[0..4] (R42) -/
  tsWork : Quint Time
  /-- ts_latched[0..4] (R43) -/
  tsLatched : Quint Time
  /-- sync_v (R44) -/
  syncV : Bool
  /-- sync_cnt (R44); below SYNC_FILTER in every reachable state (R192, log 7) -/
  syncCnt : Nat
  /-- the model's own: the word port bus_rdata carried in the tick that has just ended (R20, R261; log 4) -/
  rdata : Word
  /-- the model's own: the inputs I_t, I_{t+1}, ... still to come, this tick's first (R12, R260; log 1) -/
  script : List TickInput
  /-- the model's own: how many ticks have passed, the argument of the free input levels (log 2) -/
  freeCount : Nat
deriving DecidableEq, Repr

/-- The inactive window, the reset value of every win (R24). -/
def Window.inactive : Window := { tStart := 0, tEnd := 0 }

/-- The disabled zero pattern, the reset value of every herald slot (R23). -/
def Herald.off : Herald := { pattern := 0, enabled := false }

/-- The reset value of either bank: all zero (R21 to R24, R32, R48). -/
def Bank.reset : Bank :=
  { enable := false
    isMaster := false
    standalone := false
    cycleLength := 0
    heralds := ⟨Herald.off, Herald.off, Herald.off, Herald.off⟩
    windows := ⟨Window.inactive, Window.inactive, Window.inactive, Window.inactive,
      Window.inactive, Window.inactive, Window.inactive, Window.inactive⟩ }

/-- The reset state of R48 and R310 for a machine with the default parameters of R9. No program is placed. -/
def State.reset : State :=
  { params := Params.default
    persisted := Bank.reset
    active := Bank.reset
    maxRunTime := 0
    phase := .idle
    cycleTime := 0
    elapsed := 0
    nCycles := 0
    exitCause := .none
    heraldIndex := 0
    inPrev := 0
    sig := 0
    seen4 := false
    tsWork := ⟨0, 0, 0, 0, 0⟩
    tsLatched := ⟨0, 0, 0, 0, 0⟩
    syncV := false
    syncCnt := 0
    rdata := 0
    script := []
    freeCount := 0 }

end Sys2Proof.Machine
end

