-- ==== Sys2Proof/Machine/Operands.lean ====
section
/-! DEFINITION. The indexed arrays of CORE and every operand form: which window a bank's index names under either
N_OUT (spec/10_state.md R24), and how a Heralds word is unpacked under any layout (spec/30_encoding.md R85, R86). -/

namespace Sys2Proof.Machine

/-- N_OUT as a number (R8). -/
def nOutNat : NOut → Nat
  | .three => 3
  | .four => 4

/-- A 4-bit vector from its bits, bit 3 first (R11). -/
def bits4 (b3 b2 b1 b0 : Bool) : BitVec 4 :=
  (BitVec.ofBool b0).zeroExtend 4 ||| ((BitVec.ofBool b1).zeroExtend 4 <<< 1) |||
    ((BitVec.ofBool b2).zeroExtend 4 <<< 2) ||| ((BitVec.ofBool b3).zeroExtend 4 <<< 3)

/-- her_pat[k], her_en[k]. -/
def Quad.get {α : Type} (q : Quad α) (k : Fin 4) : α :=
  match k with
  | 0 => q.e0
  | 1 => q.e1
  | 2 => q.e2
  | 3 => q.e3

/-- ts_work[i], ts_latched[i]. -/
def Quint.get {α : Type} (q : Quint α) (i : Fin 5) : α :=
  match i with
  | 0 => q.e0
  | 1 => q.e1
  | 2 => q.e2
  | 3 => q.e3
  | 4 => q.e4

/-- win[j]. -/
def Octet.get {α : Type} (q : Octet α) (j : Fin 8) : α :=
  match j with
  | 0 => q.e0
  | 1 => q.e1
  | 2 => q.e2
  | 3 => q.e3
  | 4 => q.e4
  | 5 => q.e5
  | 6 => q.e6
  | 7 => q.e7

/-- win[j] <- x, every other place kept. -/
def Octet.set {α : Type} (q : Octet α) (j : Fin 8) (x : α) : Octet α :=
  match j with
  | 0 => { q with e0 := x }
  | 1 => { q with e1 := x }
  | 2 => { q with e2 := x }
  | 3 => { q with e3 := x }
  | 4 => { q with e4 := x }
  | 5 => { q with e5 := x }
  | 6 => { q with e6 := x }
  | 7 => { q with e7 := x }

/-- All five timestamps 0, as a Run write, a wrap and an exit leave ts_work (R41, R42). -/
def noTimes : Quint Time := ⟨0, 0, 0, 0, 0⟩

/-- win[c]: the window of output channel c, for c below N_OUT (R24). -/
def Bank.outWindow (b : Bank) (c : Fin 4) : Window := b.windows.get ⟨c.val, by omega⟩

/-- win[N_OUT + i]: the window of input-gating channel i (R24). -/
def Bank.gateWindow (b : Bank) (n : NOut) (i : Fin 4) : Window :=
  match n with
  | .three => b.windows.get ⟨3 + i.val, by omega⟩
  | .four => b.windows.get ⟨4 + i.val, by omega⟩

/-- win[j] <- (t_start, t_end): the fields as they stand, unchecked (R115). -/
def Bank.setWindow (b : Bank) (j : Fin 8) (tStart tEnd : Time) : Bank :=
  { b with windows := b.windows.set j { tStart := tStart, tEnd := tEnd } }

/-- Layout A over the 20 packed bits: pattern[k] = w[4k+3:4k], enable[k] = w[16+k] (R85). -/
def heraldUnpackA (w : BitVec 20) : Quad Herald :=
  ⟨{ pattern := w.extractLsb' 0 4, enabled := w.getLsbD 16 },
   { pattern := w.extractLsb' 4 4, enabled := w.getLsbD 17 },
   { pattern := w.extractLsb' 8 4, enabled := w.getLsbD 18 },
   { pattern := w.extractLsb' 12 4, enabled := w.getLsbD 19 }⟩

/-- The word with bits i and j exchanged. -/
def swapBits (i j : Fin 20) (w : BitVec 20) : BitVec 20 :=
  if w.getLsbD i.val = w.getLsbD j.val then w
  else w ^^^ (1#20 <<< i.val) ^^^ (1#20 <<< j.val)

/-- b for a, a for b, every other word itself. -/
def swapWords (a b w : BitVec 20) : BitVec 20 :=
  if w = a then b else if w = b then a else w

/-- One step of a layout's description on a word. -/
def layoutStep (st : LayoutStep) (w : BitVec 20) : BitVec 20 :=
  match st with
  | .swapBits i j => swapBits i j w
  | .swapWords a b => swapWords a b w

/-- The steps of a layout's description on a word, the first one first. -/
def layoutWord : List LayoutStep → BitVec 20 → BitVec 20
  | [], w => w
  | st :: rest, w => layoutWord rest (layoutStep st w)

/-- herald_unpack, the function the machine's parameter HERALD_LAYOUT is (R86): layout A, or layout A of the word the
parameter's steps make of the written one (log 6). -/
def heraldUnpack (l : HeraldLayout) (w : BitVec 20) : Quad Herald :=
  match l with
  | .layoutA => heraldUnpackA w
  | .other steps => heraldUnpackA (layoutWord steps w)

end Sys2Proof.Machine
end

