-- ==== Sys2Proof/Machine/Flags.lean ====
section
/-! DEFINITION. The flags of CORE and the words reads return: running, exit_cause and herald_index in the Status word
(spec/30_encoding.md R88), NCycles (R89) and the timestamps (R90), and the tests the sequencer makes. -/

namespace Sys2Proof.Machine

/-- running = (phase != IDLE); not a stored bit (R39). -/
def State.isBusy (s : State) : Bool := decide (s.phase ≠ .idle)

/-- The code of exit_cause (R37, R282). -/
def ExitCause.code : ExitCause → BitVec 3
  | .none => 0
  | .complete => 1
  | .timeout => 2
  | .heralded => 3
  | .refused => 4

/-- The Status word: running at bit 0, exit_cause at bits 3:1, herald_index at bits 5:4, the rest 0 (R88, R116). -/
def State.statusWord (s : State) : Word :=
  (BitVec.ofBool s.isBusy).zeroExtend 32 ||| (s.exitCause.code.zeroExtend 32 <<< 1) |||
    (s.heraldIndex.zeroExtend 32 <<< 4)

/-- The NCycles word (R89, R117). -/
def State.nCyclesWord (s : State) : Word := s.nCycles.zeroExtend 32

/-- The Timestamp word of channel i (R90, R118). -/
def State.timestampWord (s : State) (i : Fin 5) : Word := (s.tsLatched.get i).zeroExtend 32

/-- RegRead(a): the word a read of address a returns (R13, R116 to R118, R120). -/
def State.regRead (s : State) (a : Addr) : Word :=
  match a.toNat with
  | 0x10 => s.statusWord
  | 0x11 => s.nCyclesWord
  | 0x18 => s.timestampWord 0
  | 0x19 => s.timestampWord 1
  | 0x1A => s.timestampWord 2
  | 0x1B => s.timestampWord 3
  | 0x1C => s.timestampWord 4
  | _ => 0

/-- inwin(w, ct): the half-open interval [t_start, t_end), t_start = 0 never open (R180). -/
def inwin (w : Window) (ct : Time) : Bool :=
  decide (w.tStart ≠ 0) && decide (w.tStart.toNat ≤ ct.toNat) && decide (ct.toNat < w.tEnd.toNat)

/-- wrap: cycle_time = L_a - 1 (R183). For L_a = 0, which no reachable RUNNING state has, the difference is taken
modulo 2^14 (log 11). -/
def State.wraps (s : State) : Bool := decide (s.cycleTime = s.active.cycleLength - 1)

/-- elapsed + 1 >= T_a, computed without wrap (R186, R187). -/
def State.timeUp (s : State) : Bool := decide (s.maxRunTime.toNat ≤ s.elapsed.toNat + 1)

end Sys2Proof.Machine
end

