-- ==== Sys2Proof/Machine/Ops.lean ====
section
/-! DEFINITION. The shared operations of one tick, in the parts of spec/45_tick_step.md R262: the input a tick samples,
the always-on conditioning (A), the sampler, the matcher, the sequencer by phase (C), the exit that stands where a
trap entry would (spec/60_exceptions.md R290; it has no return, R295), the Run write (R112) and the reset edge (R264). -/

namespace Sys2Proof.Machine

/-! The input of the tick -/

/-- I_t of a tick the script does not list: nothing on rst and on the bus, free levels on in and sync_i (log 2). The
model's choice: the levels depend on the tick count alone, so two instances of a pair with equal freeCount sample the
same in[4:0] here, although each has an environment of its own (R10, R303; log 19). -/
def State.unscripted (s : State) : TickInput :=
  { rst := false, op := 0, addr := 0, wdata := 0
    inp := Config.freeIn s.freeCount, syncI := Config.freeSync s.freeCount }

/-- I_t: what CORE samples at the edge that ends this tick (R12). -/
def State.inputNow (s : State) : TickInput :=
  match s.script with
  | [] => s.unscripted
  | i :: _ => i

/-- The register operation of a tick's input, if there is one (R20, R260). -/
def TickInput.operation (i : TickInput) : Option Instr := busOperation i.op i.addr i.wdata

/-! A. Always-on input conditioning -/

/-- det[i] = in[i] and not in_prev[i] (R152). -/
def State.det (s : State) : BitVec 5 := s.inputNow.inp &&& ~~~ s.inPrev

/-- The input filter of sync_i: (v', c') from SYNC_FILTER, sync_v, sync_cnt and the sample (R235). -/
def syncFilterStep (n : Nat) (v : Bool) (c : Nat) (i : Bool) : Bool × Nat :=
  if i = v then (v, 0) else if n ≤ c + 1 then (i, 0) else (v, c + 1)

/-- v': the validated partner level after this edge (R235). -/
def State.syncVNext (s : State) : Bool :=
  (syncFilterStep s.params.syncFilter s.syncV s.syncCnt s.inputNow.syncI).1

/-- c': the filter's count after this edge (R235). -/
def State.syncCntNext (s : State) : Nat :=
  (syncFilterStep s.params.syncFilter s.syncV s.syncCnt s.inputNow.syncI).2

/-- rise: the validated level goes from 0 to 1 at this edge (R235). -/
def State.syncRise (s : State) : Bool := s.syncVNext && !s.syncV

/-- The edge that ends the tick of s, over what the other parts left in n: part A of R262, one input consumed, and the
word bus_rdata carried (R261). -/
def State.endTick (s n : State) (rdata : Word) : State :=
  { n with
    inPrev := s.inputNow.inp
    syncV := s.syncVNext
    syncCnt := s.syncCntNext
    rdata := rdata
    script := s.script.tail
    freeCount := s.freeCount + 1 }

/-! Sampler (R153 to R155) -/

/-- Bit i: inwin(win_a[N_OUT + i], cycle_time), the gating window of channel i is open (R153). -/
def State.gatesOpen (s : State) : BitVec 4 :=
  bits4 (inwin (s.active.gateWindow s.params.nOut 3) s.cycleTime)
    (inwin (s.active.gateWindow s.params.nOut 2) s.cycleTime)
    (inwin (s.active.gateWindow s.params.nOut 1) s.cycleTime)
    (inwin (s.active.gateWindow s.params.nOut 0) s.cycleTime)

/-- hit[3:0]: accepted events of the gated channels (R153). -/
def State.hits (s : State) : BitVec 4 := s.det.extractLsb' 0 4 &&& ~~~ s.sig &&& s.gatesOpen

/-- hit[4]: an accepted event of the reference channel; no window applies (R154). -/
def State.hitRef (s : State) : Bool := s.det.getLsbD 4 && !s.seen4

/-- sig_e (R155). -/
def State.sigE (s : State) : BitVec 4 := s.sig ||| s.hits

/-- seen4_e (R155). -/
def State.seen4E (s : State) : Bool := s.seen4 || s.hitRef

/-- ts_e (R155). -/
def State.tsE (s : State) : Quint Time :=
  ⟨if s.hits.getLsbD 0 then s.cycleTime else s.tsWork.e0,
   if s.hits.getLsbD 1 then s.cycleTime else s.tsWork.e1,
   if s.hits.getLsbD 2 then s.cycleTime else s.tsWork.e2,
   if s.hits.getLsbD 3 then s.cycleTime else s.tsWork.e3,
   if s.hitRef then s.cycleTime else s.tsWork.e4⟩

/-! Matcher (R211, R212) -/

/-- m[k] = her_en_a[k] and (sig_e = her_pat_a[k]) (R211). -/
def State.slotMatches (s : State) (k : Fin 4) : Bool :=
  (s.active.heralds.get k).enabled && decide (s.sigE = (s.active.heralds.get k).pattern)

/-- The least k with m[k] = 1, or nothing when no slot matches (R212). -/
def State.matchIndex (s : State) : Option (BitVec 2) :=
  if s.slotMatches 0 then some 0
  else if s.slotMatches 1 then some 1
  else if s.slotMatches 2 then some 2
  else if s.slotMatches 3 then some 3
  else none

/-! The exit -/

/-- exit(cause, idx, ts, n): the analogue of taking an exception, within one edge (R290). It leaves the banks, T_a,
cycle_time, elapsed and everything part A writes (R291). -/
def State.exit (s : State) (cause : ExitCause) (idx : BitVec 2) (ts : Quint Time) (n : Time) : State :=
  { s with
    phase := .idle
    exitCause := cause
    heraldIndex := idx
    tsLatched := ts
    nCycles := n
    sig := 0
    seen4 := false
    tsWork := noTimes }

/-! C. Sequencer -/

/-- The start condition of the role (R238): the level for the master, the rise for the slave. -/
def State.starts (s : State) : Bool := if s.active.isMaster then s.syncVNext else s.syncRise

/-- absent: in a paired role the validated partner level after this edge is 0 (R189, R241). -/
def State.partnerAbsent (s : State) : Bool := !s.active.standalone && !s.syncVNext

/-- n': the cycle that ends at this edge is counted, modulo 2^14 (R184). -/
def State.nCyclesNext (s : State) : Time := if s.wraps then s.nCycles + 1 else s.nCycles

/-- ARMED, no Run write: start, else TIMEOUT, else wait (R174 to R176). -/
def State.stepArmed (s : State) : State :=
  if s.starts then { s with phase := .running, elapsed := 0, cycleTime := 0 }
  else if s.timeUp then s.exit .timeout 0 s.tsWork s.nCycles
  else { s with elapsed := s.elapsed + 1 }

/-- The matcher's result where it is used: at a wrap edge only (R213). -/
def State.heraldExit (s : State) : Option (BitVec 2) := if s.wraps then s.matchIndex else none

/-- RUNNING, no Run write and no exit: the counters advance; a wrap clears the cycle's record (R155, R183, R184). -/
def State.continueRun (s : State) : State :=
  if s.wraps then
    { s with
      elapsed := s.elapsed + 1
      nCycles := s.nCyclesNext
      cycleTime := 0
      sig := 0
      seen4 := false
      tsWork := noTimes }
  else
    { s with
      elapsed := s.elapsed + 1
      nCycles := s.nCyclesNext
      cycleTime := s.cycleTime + 1
      sig := s.sigE
      seen4 := s.seen4E
      tsWork := s.tsE }

/-- RUNNING, no Run write: herald exit, else run-time exit, else partner-absent exit, else go on (R190). -/
def State.stepRunning (s : State) : State :=
  match s.heraldExit with
  | some idx => s.exit .heralded idx s.tsE s.nCyclesNext
  | none =>
    if s.timeUp then s.exit .timeout 0 s.tsE s.nCyclesNext
    else if s.partnerAbsent then s.exit .timeout 0 s.tsE s.nCyclesNext
    else s.continueRun

/-- Part C of R262, by phase; IDLE does nothing (R172). -/
def State.sequence (s : State) : State :=
  match s.phase with
  | .idle => s
  | .armed => s.stepArmed
  | .running => s.stepRunning

/-- The whole tick of an input that carries no Run write and no write: parts A and C of R262. rdata is the word the
bus carried, 0 when there was no read (R121). -/
def State.tickWith (s : State) (rdata : Word) : State := s.endTick s.sequence rdata

/-- The whole tick of a configuration write: the persisted bank is disjoint from everything part C writes (R262). -/
def State.tickStoring (s : State) (b : Bank) : State := { s.tickWith 0 with persisted := b }

/-! The Run write (R112) and reset (R264) -/

/-- R112 steps 1 to 3: abort without an exit, snapshot, clear. -/
def State.snapshot (s : State) (t : Word) : State :=
  { s with
    active := s.persisted
    maxRunTime := t
    nCycles := 0
    cycleTime := 0
    elapsed := 0
    sig := 0
    seen4 := false
    tsWork := noTimes
    exitCause := .none
    heraldIndex := 0 }

/-- R112 step 4: REFUSED, else ZERO, else STANDALONE, else PAIRED. -/
def State.runWrite (s : State) (t : Word) : State :=
  if s.persisted.enable = false ∨ s.persisted.cycleLength = 0 then
    { s.snapshot t with phase := .idle, exitCause := .refused }
  else if t = 0 then
    { s.snapshot t with phase := .idle, exitCause := .timeout, tsLatched := noTimes }
  else if s.persisted.standalone then { s.snapshot t with phase := .running }
  else { s.snapshot t with phase := .armed }

/-- The whole tick of a Run write: part C is replaced, part A still happens (R112, R262). -/
def State.runTick (s : State) (t : Word) : State := s.endTick (s.runWrite t) 0

/-- The word port bus_rdata carries in this tick (R261): RegRead of the address for a read, else 0. -/
def State.busRdata (s : State) : Word :=
  if s.inputNow.op = 2 then s.regRead s.inputNow.addr else 0

/-- An edge with rst = 1 (R264): the reset state whatever the input, the bus operation lost, bus_rdata still the
output of the state before. The parameters, the inputs still to come and the tick count are no state of CORE's. -/
def State.resetEdge (s : State) : State :=
  { State.reset with
    params := s.params
    rdata := s.busRdata
    script := s.script.tail
    freeCount := s.freeCount + 1 }

end Sys2Proof.Machine
end

