-- ==== Sys2Proof/Machine/Reads.lean ====
section
/-! DEFINITION. The read operations of spec/40_register_file.md, one meaning each: R116 to R118 and R120. A read
changes nothing of the Register File (R64); its word is what port bus_rdata carries in the tick (R62; log 4). -/

namespace Sys2Proof.Machine

/-- RD_STATUS (R116). -/
def execRdStatus (s : State) : Host.Outcome State Fault Refusal := .next (s.tickWith s.statusWord)

/-- RD_NCYCLES (R117). -/
def execRdNcycles (s : State) : Host.Outcome State Fault Refusal := .next (s.tickWith s.nCyclesWord)

/-- RD_TIMESTAMP(0) (R118). -/
def execRdTimestamp0 (s : State) : Host.Outcome State Fault Refusal := .next (s.tickWith (s.timestampWord 0))

/-- RD_TIMESTAMP(1) (R118). -/
def execRdTimestamp1 (s : State) : Host.Outcome State Fault Refusal := .next (s.tickWith (s.timestampWord 1))

/-- RD_TIMESTAMP(2) (R118). -/
def execRdTimestamp2 (s : State) : Host.Outcome State Fault Refusal := .next (s.tickWith (s.timestampWord 2))

/-- RD_TIMESTAMP(3) (R118). -/
def execRdTimestamp3 (s : State) : Host.Outcome State Fault Refusal := .next (s.tickWith (s.timestampWord 3))

/-- RD_TIMESTAMP(4) (R118). -/
def execRdTimestamp4 (s : State) : Host.Outcome State Fault Refusal := .next (s.tickWith (s.timestampWord 4))

/-- RD_ZERO (R120): 0, whatever the address. -/
def execRdZero (_addr : Addr) (s : State) : Host.Outcome State Fault Refusal := .next (s.tickWith 0)

end Sys2Proof.Machine
end

