-- ==== Sys2Proof/Machine/Writes.lean ====
section
/-! DEFINITION. The write operations of spec/40_register_file.md, one meaning each: R111 to R115 and R119. A meaning is
the WHOLE tick that carries the operation (R110, R262; log 3). -/

namespace Sys2Proof.Machine

/-- WR_CONFIG (R111). -/
def execWrConfig (enable isMaster standalone : Bool) (s : State) : Host.Outcome State Fault Refusal :=
  .next (s.tickStoring { s.persisted with enable := enable, isMaster := isMaster, standalone := standalone })

/-- WR_RUN (R112). -/
def execWrRun (maxRunTime : Word) (s : State) : Host.Outcome State Fault Refusal :=
  .next (s.runTick maxRunTime)

/-- WR_CYCLE_LENGTH (R113). -/
def execWrCycleLength (cycleLength : Time) (s : State) : Host.Outcome State Fault Refusal :=
  .next (s.tickStoring { s.persisted with cycleLength := cycleLength })

/-- WR_HERALDS (R114, R86): all eight fields at once, unpacked by the machine's layout. -/
def execWrHeralds (packed : BitVec 20) (s : State) : Host.Outcome State Fault Refusal :=
  .next (s.tickStoring { s.persisted with heralds := heraldUnpack s.params.heraldLayout packed })

/-- The write to 0x08 (R115): win_p[0]. -/
def execWrTimingOut0 (tStart tEnd : Time) (s : State) : Host.Outcome State Fault Refusal :=
  .next (s.tickStoring (s.persisted.setWindow 0 tStart tEnd))

/-- The write to 0x09 (R115): win_p[1]. -/
def execWrTimingOut1 (tStart tEnd : Time) (s : State) : Host.Outcome State Fault Refusal :=
  .next (s.tickStoring (s.persisted.setWindow 1 tStart tEnd))

/-- The write to 0x0A (R115): win_p[2]. -/
def execWrTimingOut2 (tStart tEnd : Time) (s : State) : Host.Outcome State Fault Refusal :=
  .next (s.tickStoring (s.persisted.setWindow 2 tStart tEnd))

/-- The write to 0x0B (R115, R92): win_p[3], input gate 0, or output 3 when N_OUT = 4. -/
def execWrTimingIn0 (tStart tEnd : Time) (s : State) : Host.Outcome State Fault Refusal :=
  .next (s.tickStoring (s.persisted.setWindow 3 tStart tEnd))

/-- The write to 0x0C (R115, R92): win_p[4], input gate 1, or input gate 0 when N_OUT = 4. -/
def execWrTimingIn1 (tStart tEnd : Time) (s : State) : Host.Outcome State Fault Refusal :=
  .next (s.tickStoring (s.persisted.setWindow 4 tStart tEnd))

/-- The write to 0x0D (R115, R92): win_p[5], input gate 2, or input gate 1 when N_OUT = 4. -/
def execWrTimingIn2 (tStart tEnd : Time) (s : State) : Host.Outcome State Fault Refusal :=
  .next (s.tickStoring (s.persisted.setWindow 5 tStart tEnd))

/-- The write to 0x0E (R115, R92): win_p[6], input gate 3, or input gate 2 when N_OUT = 4. -/
def execWrTimingIn3 (tStart tEnd : Time) (s : State) : Host.Outcome State Fault Refusal :=
  .next (s.tickStoring (s.persisted.setWindow 6 tStart tEnd))

/-- The write to 0x0F: ignored when N_OUT = 3 (R119), win_p[7], input gate 3, when N_OUT = 4 (R92, R115). -/
def execWrAddr0F (tStart tEnd : Time) (s : State) : Host.Outcome State Fault Refusal :=
  .next (s.tickStoring (match s.params.nOut with
    | .three => s.persisted
    | .four => s.persisted.setWindow 7 tStart tEnd))

/-- WR_IGNORED (R119): the Register File changes nothing, whatever the address. -/
def execWrIgnored (_addr : Addr) (s : State) : Host.Outcome State Fault Refusal :=
  .next (s.tickStoring s.persisted)

end Sys2Proof.Machine
end

