-- ==== Sys2Proof/Machine/Dispatch.lean ====
section
/-! DEFINITION. One arm per constructor of Instr: the tick that carries that register-bus operation. -/

namespace Sys2Proof.Machine

-- One tick of CORE whose input carries the operation i (R110, R262).
def exec (i : Instr) (s : State) : Host.Outcome State Fault Refusal :=
  match i with
  | .wrConfig e m a => Sys2Proof.Machine.execWrConfig e m a s
  | .wrRun t => Sys2Proof.Machine.execWrRun t s
  | .wrCycleLength l => Sys2Proof.Machine.execWrCycleLength l s
  | .wrHeralds p => Sys2Proof.Machine.execWrHeralds p s
  | .wrTimingOut0 b e => Sys2Proof.Machine.execWrTimingOut0 b e s
  | .wrTimingOut1 b e => Sys2Proof.Machine.execWrTimingOut1 b e s
  | .wrTimingOut2 b e => Sys2Proof.Machine.execWrTimingOut2 b e s
  | .wrTimingIn0 b e => Sys2Proof.Machine.execWrTimingIn0 b e s
  | .wrTimingIn1 b e => Sys2Proof.Machine.execWrTimingIn1 b e s
  | .wrTimingIn2 b e => Sys2Proof.Machine.execWrTimingIn2 b e s
  | .wrTimingIn3 b e => Sys2Proof.Machine.execWrTimingIn3 b e s
  | .wrAddr0F b e => Sys2Proof.Machine.execWrAddr0F b e s
  | .wrIgnored a => Sys2Proof.Machine.execWrIgnored a s
  | .rdStatus => Sys2Proof.Machine.execRdStatus s
  | .rdNcycles => Sys2Proof.Machine.execRdNcycles s
  | .rdTimestamp0 => Sys2Proof.Machine.execRdTimestamp0 s
  | .rdTimestamp1 => Sys2Proof.Machine.execRdTimestamp1 s
  | .rdTimestamp2 => Sys2Proof.Machine.execRdTimestamp2 s
  | .rdTimestamp3 => Sys2Proof.Machine.execRdTimestamp3 s
  | .rdTimestamp4 => Sys2Proof.Machine.execRdTimestamp4 s
  | .rdZero a => Sys2Proof.Machine.execRdZero a s

end Sys2Proof.Machine
end

