-- ==== Sys2Proof/Machine/Script.lean ====
section
/-! DEFINITION. The textual form of operation sequences as data: one line per tick (spec/30_encoding.md R97), the
pseudo-operations of R98, and how an operation or a partner level is put into this tick's input. -/

namespace Sys2Proof.Machine

/-- NOP with R97's default annotation: in = 0b00000, sync_i = 0. -/
def lineNop : TickInput := { rst := false, op := 0, addr := 0, wdata := 0, inp := 0, syncI := false }

/-- WR addr, word (R97). -/
def lineWr (a : Addr) (w : Word) : TickInput := { lineNop with op := 1, addr := a, wdata := w }

/-- RD addr (R97). -/
def lineRd (a : Addr) : TickInput := { lineNop with op := 2, addr := a }

/-- A tick with rst = 1 (R264). -/
def lineRst : TickInput := { lineNop with rst := true }

/-- The annotation of a line: in = ..., sync_i = ... (R97). -/
def TickInput.annotated (i : TickInput) (inp : BitVec 5) (syncI : Bool) : TickInput :=
  { i with inp := inp, syncI := syncI }

/-- CONFIG en, ms, sa (R98). -/
def pseudoConfig (en ms sa : Bool) : TickInput := lineWr 0x00 (configWord en ms sa)

/-- RUN T (R98). -/
def pseudoRun (t : Word) : TickInput := lineWr 0x01 t

/-- CYCLE L (R98). -/
def pseudoCycle (l : Word) : TickInput := lineWr 0x02 l

/-- HERALDS p0,p1,p2,p3 / e0,e1,e2,e3 (R98). -/
def pseudoHeralds (p0 p1 p2 p3 : BitVec 4) (e0 e1 e2 e3 : Bool) : TickInput :=
  lineWr 0x03 (p0.zeroExtend 32 ||| (p1.zeroExtend 32 <<< 4) ||| (p2.zeroExtend 32 <<< 8) |||
    (p3.zeroExtend 32 <<< 12) ||| ((bits4 e3 e2 e1 e0).zeroExtend 32 <<< 16))

/-- WIN_OUT c, s, e (R98), for c below N_OUT. -/
def pseudoWinOut (c : Nat) (s e : Time) : TickInput := lineWr (BitVec.ofNat 5 (0x08 + c)) (windowWord s e)

/-- WIN_IN i, s, e (R98): the address is 0x08 + N_OUT + i. -/
def pseudoWinIn (n : NOut) (i : Nat) (s e : Time) : TickInput :=
  lineWr (BitVec.ofNat 5 (0x08 + nOutNat n + i)) (windowWord s e)

/-- STATUS (R98). -/
def pseudoStatus : TickInput := lineRd 0x10

/-- NCYCLES (R98). -/
def pseudoNcycles : TickInput := lineRd 0x11

/-- TS i (R98), for i below 5. -/
def pseudoTs (i : Nat) : TickInput := lineRd (BitVec.ofNat 5 (0x18 + i))

/-- A state whose inputs from this tick on are the lines of a program (R97). -/
def State.withScript (s : State) (lines : List TickInput) : State := { s with script := lines }

/-- The line an operation is put on: this tick's, or a NOP line with R97's default levels where none is listed
(log 8). -/
def State.lineNow (s : State) : TickInput :=
  match s.script with
  | [] => lineNop
  | i :: _ => i

/-- s with the operation word of the table put on the bus in this tick: bus_op, bus_addr and bus_wdata from the bits
R80 gives them, rst low, the levels of the tick as they were. -/
def State.presentWord (s : State) (nbits w : Nat) : State :=
  let op : OpWord := BitVec.ofNat 38 (w % 2 ^ nbits)
  { s with script :=
      { s.lineNow with
        rst := false
        op := if opIsWrite op then 1 else 2
        addr := opAddr op
        wdata := opData op } :: s.script.tail }

/-- s with nothing on the bus and rst low in this tick, its levels as they were. -/
def State.silenced (s : State) : State :=
  { s with script := { s.inputNow with rst := false, op := 0 } :: s.script.tail }

/-- s with the partner line at the given level in this tick (R231). -/
def State.driveSync (s : State) (level : Bool) : State :=
  { s with script := { s.inputNow with syncI := level } :: s.script.tail }

end Sys2Proof.Machine
end

