-- ==== Sys2Proof/Machine/Step.lean ====
section
/-! DEFINITION. One step of the machine: one tick (spec/45_tick_step.md R260, R262, R264), on the input the state's
script gives it. -/

namespace Sys2Proof.Machine

/-- One tick: reset at an edge with rst = 1 (R264), else the tick that carries the bus operation of this tick's
input, else the tick without one (R121). -/
def step (s : State) : Host.Outcome State Fault Refusal :=
  if s.inputNow.rst then .next s.resetEdge
  else match s.inputNow.operation with
    | some i => exec i s
    | none => .next (s.tickWith 0)

/-- s with the operation word w on the bus in its next tick (R80, R20; log 8). -/
def State.withFetchWord (s : State) (nbits w : Nat) : State := s.presentWord nbits w

end Sys2Proof.Machine
end

