-- ==== Sys2Proof/Machine/Outputs.lean ====
section
/-! DEFINITION. The outputs of a tick as functions of the state during it (spec/10_state.md R46, R47,
spec/45_tick_step.md R261). -/

namespace Sys2Proof.Machine

/-- out[c]: high exactly while RUNNING and inside the window of output channel c; 0 in IDLE and ARMED, and there is no
channel c at or above N_OUT (R46). -/
def State.outLine (s : State) (c : Fin 4) : Bool :=
  decide (c.val < nOutNat s.params.nOut) && decide (s.phase = .running) &&
    inwin (s.active.outWindow c) s.cycleTime

/-- sync_o (R47): 0 in IDLE and standalone; the master drives it while RUNNING (R232), the slave while ARMED or
RUNNING (R233). -/
def State.syncO (s : State) : Bool :=
  if s.phase = .idle ∨ s.active.standalone = true then false
  else if s.active.isMaster then decide (s.phase = .running)
  else true

/-- Output O of R260. Bit c of out is out[c]; bits at or above N_OUT are 0. -/
structure Output where
  out : BitVec 4
  syncO : Bool
  rdata : Word
deriving DecidableEq, Repr

/-- output(S, I) of R261. Only rdata depends on the input. -/
def State.output (s : State) : Output :=
  { out := bits4 (s.outLine 3) (s.outLine 2) (s.outLine 1) (s.outLine 0)
    syncO := s.syncO
    rdata := s.busRdata }

end Sys2Proof.Machine
end

