-- ==== Sys2Proof/Machine/Pair.lean ====
section
/-! DEFINITION. Two instances in lock step with their sync lines crossed (spec/00_scope.md R2,
spec/44_sync_controller.md R231, spec/60_exceptions.md R303): a level driven during tick t is the level the other
instance samples at the edge ending tick t. -/

namespace Sys2Proof.Machine

/-- Two instances (R303). Which is master and which slave is for their Config to say. Each has its own inputs in its
own script; past both scripts, instances with equal freeCount sample the same free levels of in[4:0] (log 19). Each has
parameters of its own (R9). -/
structure Pair where
  one : State
  two : State
deriving DecidableEq, Repr

/-- One tick of both: each samples the other's sync_o on its sync_i, whatever its own script says of that line. -/
def Pair.step (p : Pair) : Host.Outcome Pair Fault Refusal :=
  match Sys2Proof.Machine.step (p.one.driveSync p.two.syncO), Sys2Proof.Machine.step (p.two.driveSync p.one.syncO) with
  | .next a, .next b => .next { one := a, two := b }
  | .fault r, _ => .fault r
  | _, .fault r => .fault r
  | .refused r, _ => .refused r
  | _, .refused r => .refused r

/-- k ticks of both. -/
def Pair.run : Nat → Pair → Host.Outcome Pair Fault Refusal
  | 0, p => .next p
  | k + 1, p =>
    match p.step with
    | .next q => Pair.run k q
    | .fault r => .fault r
    | .refused r => .refused r

end Sys2Proof.Machine
end

