-- ==== Sys2Proof/Safety.lean ====
section
/-! DEFINITION. What counts as a safe state: the invariants of spec/10_state.md R49 and of the timestamps
(spec/41_timestamp_sampler.md R158); and the terms in which statements speak of inputs without a Run write and of the
parts of the state a transition leaves alone. -/

namespace Sys2Proof.Machine

/-- The invariants (a) to (h) of R49; (a) holds by the type of phase. The last three clauses say of the parameters and
of the model's own layout what R9, R192 and R24 say: SYNC_FILTER is at least 1, sync_cnt stays below it, and the
eighth window place stays inactive where N_OUT = 3 gives it no register. -/
structure State.Inv (s : State) : Prop where
  busyConfig : s.phase ≠ .idle →
    s.active.enable = true ∧ 1 ≤ s.active.cycleLength.toNat ∧ 1 ≤ s.maxRunTime.toNat ∧
      s.elapsed.toNat < s.maxRunTime.toNat
  armedClean : s.phase = .armed →
    s.active.standalone = false ∧ s.cycleTime = 0 ∧ s.nCycles = 0 ∧ s.sig = 0 ∧ s.seen4 = false ∧ s.tsWork = noTimes
  runningInCycle : s.phase = .running → s.cycleTime.toNat < s.active.cycleLength.toNat
  idleClean : s.phase = .idle → s.sig = 0 ∧ s.seen4 = false ∧ s.tsWork = noTimes
  busyNoCause : s.phase ≠ .idle → s.exitCause = .none ∧ s.heraldIndex = 0
  indexOnlyHeralded : s.exitCause ≠ .heralded → s.heraldIndex = 0
  neverComplete : s.exitCause ≠ .complete
  paramsLegal : s.params.wf = true
  filterCount : s.syncCnt < s.params.syncFilter
  absentWindow : s.params.nOut = .three →
    s.persisted.windows.e7 = Window.inactive ∧ s.active.windows.e7 = Window.inactive

/-- The ranges of R158 for the times being recorded and the times latched. -/
structure State.TimesInv (s : State) : Prop where
  /-- a gated channel without an accepted event has time 0 -/
  quietZero : ∀ i : Fin 4, s.sig.getLsbD i.val = false → s.tsWork.get ⟨i.val, by omega⟩ = 0
  /-- a gated channel with an accepted event has a time in [1, L_a - 1] -/
  eventRange : ∀ i : Fin 4, s.sig.getLsbD i.val = true →
    1 ≤ (s.tsWork.get ⟨i.val, by omega⟩).toNat ∧
      (s.tsWork.get ⟨i.val, by omega⟩).toNat + 1 ≤ s.active.cycleLength.toNat
  /-- the reference channel has time 0 until its event -/
  refZero : s.seen4 = false → s.tsWork.get 4 = 0
  /-- the reference channel's time, if it has one, is a cycle_time, which stays below 16383 -/
  refRange : (s.tsWork.get 4).toNat < 16383
  /-- 16383 never occurs in a timestamp register -/
  latchedRange : ∀ i : Fin 5, (s.tsLatched.get i).toNat < 16383

/-- The bits of an operation word that carry something, by the formats R80 and R82 to R87: direction, address, and the
word's fields; for a read, all 38 bits, as the mask of its row in the opcode table. The others are ignored (R81). -/
def fieldMask : Instr → OpWord
  | .wrConfig _ _ _ => 0x3F00000007
  | .wrRun _ => 0x3FFFFFFFFF
  | .wrCycleLength _ => 0x3F00003FFF
  | .wrHeralds _ => 0x3F000FFFFF
  | .wrTimingOut0 _ _ => 0x3F0FFFFFFF
  | .wrTimingOut1 _ _ => 0x3F0FFFFFFF
  | .wrTimingOut2 _ _ => 0x3F0FFFFFFF
  | .wrTimingIn0 _ _ => 0x3F0FFFFFFF
  | .wrTimingIn1 _ _ => 0x3F0FFFFFFF
  | .wrTimingIn2 _ _ => 0x3F0FFFFFFF
  | .wrTimingIn3 _ _ => 0x3F0FFFFFFF
  | .wrAddr0F _ _ => 0x3F0FFFFFFF
  | .wrIgnored _ => 0x3F00000000
  | .rdStatus => 0x3FFFFFFFFF
  | .rdNcycles => 0x3FFFFFFFFF
  | .rdTimestamp0 => 0x3FFFFFFFFF
  | .rdTimestamp1 => 0x3FFFFFFFFF
  | .rdTimestamp2 => 0x3FFFFFFFFF
  | .rdTimestamp3 => 0x3FFFFFFFFF
  | .rdTimestamp4 => 0x3FFFFFFFFF
  | .rdZero _ => 0x3FFFFFFFFF

/-- The tick's input neither resets CORE nor carries a Run write. -/
def TickInput.NoRun (i : TickInput) : Prop :=
  i.rst = false ∧ ∀ t, i.operation ≠ some (.wrRun t)

/-- This tick's input carries the operation i and does not reset CORE. -/
def State.Presents (s : State) (i : Instr) : Prop :=
  s.inputNow.rst = false ∧ s.inputNow.operation = some i

/-- The inputs of the next k ticks are all listed, and none of them resets CORE or carries a Run write. -/
def State.QuietFor (s : State) (k : Nat) : Prop :=
  k ≤ s.script.length ∧ ∀ i ∈ s.script.take k, i.NoRun

/-- The record of an exit (R283) is as it was: exit_cause, herald_index, n_cycles, ts_latched. -/
def SameRecord (s t : State) : Prop :=
  t.exitCause = s.exitCause ∧ t.heraldIndex = s.heraldIndex ∧ t.nCycles = s.nCycles ∧ t.tsLatched = s.tsLatched

/-- The record of the current cycle is as it was: sig, seen4, ts_work. -/
def SameCycle (s t : State) : Prop := t.sig = s.sig ∧ t.seen4 = s.seen4 ∧ t.tsWork = s.tsWork

/-- The record of the current cycle is empty (R41, R42). -/
def EmptyCycle (t : State) : Prop := t.sig = 0 ∧ t.seen4 = false ∧ t.tsWork = noTimes

/-- What the running sequence reads is as it was: the active bank and T_a (R30, R31). -/
def SameActive (s t : State) : Prop := t.active = s.active ∧ t.maxRunTime = s.maxRunTime

/-- t is s after an exit with the given record, and everything an exit leaves alone is as it was (R290, R291). -/
def ExitedWith (s t : State) (cause : ExitCause) (idx : BitVec 2) (ts : Quint Time) (n : Time) : Prop :=
  t.phase = .idle ∧ t.exitCause = cause ∧ t.heraldIndex = idx ∧ t.tsLatched = ts ∧ t.nCycles = n ∧
    EmptyCycle t ∧ SameActive s t ∧ t.cycleTime = s.cycleTime ∧ t.elapsed = s.elapsed

end Sys2Proof.Machine
end

