-- ==== Sys2Proof/Certificates/Slice0/Obligations.lean ====
section
/-! DEFINITION. The statements for the provers, from the numbered rules of spec/. -/

open Sys2Proof Sys2Proof.Machine

/-! ## Encoding (spec/30_encoding.md) -/

/-- R80, R91, R93: the decoder gives back every well-formed operation the encoder writes, operands and all. -/
def Obligations.EncodeThenDecode : Prop :=
  ∀ i : Instr, i.wf = true → decode (encode i) = .ok i

/-- R91, R94(c): what decodes is well formed, and encoding it gives the word back with its ignored bits cleared: the
bits kept are those the formats R82 to R87 name. -/
def Obligations.DecodeThenEncode : Prop :=
  ∀ (op : OpWord) (i : Instr), decode op = .ok i →
    i.wf = true ∧ encode i = op &&& fieldMask i

/-- R80: the only 38-bit words no row of the table matches are the reads with a data bit set. -/
def Obligations.RejectedWordsAreReadsWithData : Prop :=
  ∀ op : OpWord, (∃ e, decode op = .error e) ↔
    (op.getLsbD 37 = false ∧ ∃ k, k < 32 ∧ op.getLsbD k = true)

/-- R80, R93: operation words written out in spec/95_test_vectors.md section 2.1, and one reserved word of each kind. -/
def Obligations.SomeWordsDecode : Prop :=
  decode 0x2000000005#38 = .ok (.wrConfig true false true) ∧
  decode 0x21000003E8#38 = .ok (.wrRun 1000) ∧
  decode 0x22000001F4#38 = .ok (.wrCycleLength 500) ∧
  decode 0x2300030013#38 = .ok (.wrHeralds 0x30013) ∧
  decode 0x2800320064#38 = .ok (.wrTimingOut0 100 200) ∧
  decode 0x2B000C800A#38 = .ok (.wrTimingIn0 10 50) ∧
  decode 0x1000000000#38 = .ok .rdStatus ∧
  decode 0x1100000000#38 = .ok .rdNcycles ∧
  decode 0x1800000000#38 = .ok .rdTimestamp0 ∧
  decode 0x1C00000000#38 = .ok .rdTimestamp4 ∧
  decode 0x3100000007#38 = .ok (.wrIgnored 0x11) ∧
  decode 0x0200000000#38 = .ok (.rdZero 0x02)

/-- R92, R93, R94(a) and (b): the write addresses that decode to wrIgnored are exactly the ones R94(a) lists but 0x0F,
and the read addresses that decode to rdZero exactly the ones R94(b) lists. Address 0x0F is left out by the model's
choice (log 10): R92 gives it a register when N_OUT = 4, so it has the constructor wrAddr0F. -/
def Obligations.ReservedAddresses : Prop :=
  (∀ (a : Addr) (w : Word), busOperation 1 a w = some (.wrIgnored a) ↔
    ((4 ≤ a.toNat ∧ a.toNat ≤ 7) ∨ 16 ≤ a.toNat)) ∧
  (∀ (a : Addr) (w : Word), busOperation 2 a w = some (.rdZero a) ↔
    (a.toNat ≤ 15 ∨ (18 ≤ a.toNat ∧ a.toNat ≤ 23) ∨ 29 ≤ a.toNat))

/-- R86: under every layout the unpacking of the low 20 bits is a bijection onto the eight fields (log 6). -/
def Obligations.HeraldUnpackBijective : Prop :=
  ∀ l : HeraldLayout, Function.Bijective (heraldUnpack l)

/-- R98 with R85: the word the HERALDS pseudo-operation writes unpacks, under layout A, to the patterns and enables it
was given, in a tick that writes 0x03. -/
def Obligations.HeraldsPseudoOperation : Prop :=
  ∀ (p0 p1 p2 p3 : BitVec 4) (e0 e1 e2 e3 : Bool), ∃ packed,
    (pseudoHeralds p0 p1 p2 p3 e0 e1 e2 e3).operation = some (.wrHeralds packed) ∧
    heraldUnpack .layoutA packed =
      ⟨{ pattern := p0, enabled := e0 }, { pattern := p1, enabled := e1 },
       { pattern := p2, enabled := e2 }, { pattern := p3, enabled := e3 }⟩

/-! ## The step (spec/45_tick_step.md) -/

/-- R260, R281: step is total; there is no fault and no refusal, whatever the state and its input. -/
def Obligations.StepIsTotal : Prop :=
  ∀ s : State, ∃ t, step s = .next t

/-- R262 part B: a tick without reset whose input carries an operation is the meaning of that operation, with nothing
around it. -/
def Obligations.StepRunsDecoded : Prop :=
  ∀ (s : State) (i : Instr), s.inputNow.rst = false →
    busOperation s.inputNow.op s.inputNow.addr s.inputNow.wdata = some i → step s = exec i s

/-- An operation word of the table that decodes to i, put on the bus, is the very operation the next step runs (log 8). -/
def Obligations.PlacedWordIsRun : Prop :=
  ∀ (s : State) (nbits w : Nat) (i : Instr), decodeTableWord nbits w = some i →
    step (s.withFetchWord nbits w) = exec i (s.withFetchWord nbits w)

/-- R121, R94(d): in a tick without an operation, bus_op 0 or 3, bus_rdata is 0 and the Register File changes nothing. -/
def Obligations.TickWithoutOperation : Prop :=
  ∀ s : State, s.inputNow.rst = false → (s.inputNow.op = 0 ∨ s.inputNow.op = 3) →
    ∃ t, step s = .next t ∧ t.rdata = 0 ∧ t.persisted = s.persisted ∧ SameActive s t

/-- R264: at an edge with rst = 1 the whole state becomes the reset state whatever the input, the bus operation of the
tick is lost, and bus_rdata is still the output of the state before. Nothing is said of the fields that are the model's
own and not CORE's state. -/
def Obligations.ResetEdge : Prop :=
  ∀ s : State, s.inputNow.rst = true →
    ∃ t, step s = .next t ∧ t.rdata = s.output.rdata ∧
      { t with
        params := State.reset.params
        rdata := State.reset.rdata
        script := State.reset.script
        freeCount := State.reset.freeCount } = State.reset

/-- R310, R311: the reset state. Every element 0, IDLE, cause NONE; every output 0; Status, NCycles and every timestamp
read 0; a Run write is refused. -/
def Obligations.ResetState : Prop :=
  State.reset.persisted = Bank.reset ∧ State.reset.active = Bank.reset ∧ State.reset.maxRunTime = 0 ∧
  State.reset.phase = .idle ∧ State.reset.cycleTime = 0 ∧ State.reset.elapsed = 0 ∧ State.reset.nCycles = 0 ∧
  State.reset.exitCause = .none ∧ State.reset.heraldIndex = 0 ∧ State.reset.inPrev = 0 ∧ State.reset.sig = 0 ∧
  State.reset.seen4 = false ∧ State.reset.tsWork = ⟨0, 0, 0, 0, 0⟩ ∧ State.reset.tsLatched = ⟨0, 0, 0, 0, 0⟩ ∧
  State.reset.syncV = false ∧ State.reset.syncCnt = 0 ∧
  Bank.reset.enable = false ∧ Bank.reset.isMaster = false ∧ Bank.reset.standalone = false ∧
  Bank.reset.cycleLength = 0 ∧
  (∀ k, Bank.reset.heralds.get k = { pattern := 0, enabled := false }) ∧
  (∀ j, Bank.reset.windows.get j = { tStart := 0, tEnd := 0 }) ∧
  (∀ a, State.reset.regRead a = 0) ∧ (∀ c, State.reset.outLine c = false) ∧ State.reset.syncO = false ∧
  (∀ T, ∃ t, exec (.wrRun T) State.reset = .next t ∧ t.phase = .idle ∧ t.exitCause = .refused)

/-- R62, R261: after a tick, reset or not, the word on bus_rdata is that of output(S, I): RegRead of the address for a
read, else 0. -/
def Obligations.ReadDataOfTheTick : Prop :=
  ∀ s : State, ∃ t, step s = .next t ∧ t.rdata = s.output.rdata ∧
    t.rdata = (if s.inputNow.op = 2 then s.regRead s.inputNow.addr else 0)

/-- R40, R44, R235, R262 part A: in every tick without reset, in every phase and role and whatever the operation,
in_prev takes the sample and the filter of sync_i steps. -/
def Obligations.AlwaysOnConditioning : Prop :=
  ∀ s : State, s.inputNow.rst = false → ∃ t, step s = .next t ∧
    t.inPrev = s.inputNow.inp ∧ t.syncV = s.syncVNext ∧
    (s.inputNow.syncI = s.syncV → t.syncV = s.syncV ∧ t.syncCnt = 0) ∧
    (s.inputNow.syncI ≠ s.syncV → s.params.syncFilter ≤ s.syncCnt + 1 →
      t.syncV = s.inputNow.syncI ∧ t.syncCnt = 0) ∧
    (s.inputNow.syncI ≠ s.syncV → s.syncCnt + 1 < s.params.syncFilter →
      t.syncV = s.syncV ∧ t.syncCnt = s.syncCnt + 1)

/-! ## Register File operations (spec/40_register_file.md)

Each result statement gives the next state as that of the same tick with nothing on the bus (s.silenced), but for the
fields the operation writes: that is the operation's frame. -/

/-- R111: WR_CONFIG. -/
def Obligations.WriteConfig : Prop :=
  (∀ w : Word, busOperation 1 0x00 w = some (.wrConfig (w.getLsbD 0) (w.getLsbD 1) (w.getLsbD 2))) ∧
  ∀ (s : State) (enable isMaster standalone : Bool), ∃ u, step s.silenced = .next u ∧
    SameActive s u ∧
    exec (.wrConfig enable isMaster standalone) s = .next { u with
      persisted := { s.persisted with enable := enable, isMaster := isMaster, standalone := standalone } }

/-- R113: WR_CYCLE_LENGTH. w[31:14] is ignored; 0 is stored as it stands and makes a next Run write refuse. -/
def Obligations.WriteCycleLength : Prop :=
  (∀ w : Word, busOperation 1 0x02 w = some (.wrCycleLength (w.extractLsb' 0 14))) ∧
  ∀ (s : State) (l : Time), ∃ u, step s.silenced = .next u ∧ SameActive s u ∧
    exec (.wrCycleLength l) s = .next { u with persisted := { s.persisted with cycleLength := l } } ∧
    (l = 0 → ∀ T, ∃ v, exec (.wrRun T) { u with persisted := { s.persisted with cycleLength := l } } = .next v ∧
      v.phase = .idle ∧ v.exitCause = .refused)

/-- R114: WR_HERALDS. All four slots are written together; under layout A slot k takes pattern w[4k+3:4k] and enable
w[16+k]; under another layout, the fields that layout unpacks. -/
def Obligations.WriteHeralds : Prop :=
  (∀ w : Word, busOperation 1 0x03 w = some (.wrHeralds (w.extractLsb' 0 20))) ∧
  ∀ (s : State) (packed : BitVec 20), ∃ u h, step s.silenced = .next u ∧ SameActive s u ∧
    exec (.wrHeralds packed) s = .next { u with persisted := { s.persisted with heralds := h } } ∧
    h = heraldUnpack s.params.heraldLayout packed ∧
    (s.params.heraldLayout = .layoutA → ∀ k : Fin 4,
      (h.get k).pattern = packed.extractLsb' (4 * k.val) 4 ∧ (h.get k).enabled = packed.getLsbD (16 + k.val))

/-- R115: a write to 0x08 + j for j = 0 to 6 stores its two fields in win_p[j], whatever N_OUT is, and nothing else. -/
def Obligations.WriteTimingWindow : Prop :=
  ∀ (s : State) (b e : Time), ∃ u, step s.silenced = .next u ∧ SameActive s u ∧
    exec (.wrTimingOut0 b e) s = .next { u with persisted := { s.persisted with
      windows := { s.persisted.windows with e0 := { tStart := b, tEnd := e } } } } ∧
    exec (.wrTimingOut1 b e) s = .next { u with persisted := { s.persisted with
      windows := { s.persisted.windows with e1 := { tStart := b, tEnd := e } } } } ∧
    exec (.wrTimingOut2 b e) s = .next { u with persisted := { s.persisted with
      windows := { s.persisted.windows with e2 := { tStart := b, tEnd := e } } } } ∧
    exec (.wrTimingIn0 b e) s = .next { u with persisted := { s.persisted with
      windows := { s.persisted.windows with e3 := { tStart := b, tEnd := e } } } } ∧
    exec (.wrTimingIn1 b e) s = .next { u with persisted := { s.persisted with
      windows := { s.persisted.windows with e4 := { tStart := b, tEnd := e } } } } ∧
    exec (.wrTimingIn2 b e) s = .next { u with persisted := { s.persisted with
      windows := { s.persisted.windows with e5 := { tStart := b, tEnd := e } } } } ∧
    exec (.wrTimingIn3 b e) s = .next { u with persisted := { s.persisted with
      windows := { s.persisted.windows with e6 := { tStart := b, tEnd := e } } } }

/-- R92, R119: address 0x0F is ignored when N_OUT = 3 and is win_p[7] when N_OUT = 4. -/
def Obligations.WriteAddress0F : Prop :=
  ∀ (s : State) (b e : Time), ∃ u, step s.silenced = .next u ∧ SameActive s u ∧
    (s.params.nOut = .three → exec (.wrAddr0F b e) s = .next { u with persisted := s.persisted }) ∧
    (s.params.nOut = .four → exec (.wrAddr0F b e) s = .next { u with persisted := { s.persisted with
      windows := { s.persisted.windows with e7 := { tStart := b, tEnd := e } } } })

/-- R24, R87, R92, R115: a TimingWindow word written to 0x08 + j, for every j below N_OUT + 4, becomes win_p[j] with
t_start = w[13:0] and t_end = w[27:14], and nothing else of the Register File changes; win_p[j] is the window of output
channel j for j below N_OUT and of input-gating channel j - N_OUT otherwise. -/
def Obligations.TimingAddressesByNOut : Prop :=
  ∀ (s : State) (w : Word) (j : Fin 8) (x : Window), j.val < nOutNat s.params.nOut + 4 →
    x = { tStart := w.extractLsb' 0 14, tEnd := w.extractLsb' 14 14 } →
    ∃ i u b, busOperation 1 (BitVec.ofNat 5 (8 + j.val)) w = some i ∧ step s.silenced = .next u ∧ SameActive s u ∧
      b = { s.persisted with windows := s.persisted.windows.set j x } ∧
      exec i s = .next { u with persisted := b } ∧
      (∀ c : Fin 4, c.val < nOutNat s.params.nOut → c.val = j.val → b.outWindow c = x) ∧
      (∀ k : Fin 4, nOutNat s.params.nOut + k.val = j.val → b.gateWindow s.params.nOut k = x)

/-- R119: a write to an address that has no register under the machine's N_OUT changes nothing: the tick is the one
with nothing on the bus; and so it is for WR_IGNORED at every address. -/
def Obligations.WriteIgnored : Prop :=
  ∀ (s : State) (a : Addr), ∃ u, step s.silenced = .next u ∧ u.persisted = s.persisted ∧ SameActive s u ∧
    exec (.wrIgnored a) s = .next u ∧
    ∀ w : Word, ¬ a.toNat ≤ 3 → ¬ (8 ≤ a.toNat ∧ a.toNat ≤ 8 + nOutNat s.params.nOut + 3) →
      ∃ i, busOperation 1 a w = some i ∧ exec i s = .next u

/-- R112: the Run write, its four cases in their order, from every phase. The next state is given whole: the snapshot,
the cleared transient state, and for the rest only part A of the tick; ts_latched changes in case ZERO only. -/
def Obligations.RunWrite : Prop :=
  (∀ w : Word, busOperation 1 0x01 w = some (.wrRun w)) ∧
  ∀ (s : State) (t : Word), ∃ c : State,
    c = { s with
      active := s.persisted, maxRunTime := t
      nCycles := 0, cycleTime := 0, elapsed := 0
      sig := 0, seen4 := false, tsWork := ⟨0, 0, 0, 0, 0⟩
      exitCause := .none, heraldIndex := 0
      inPrev := s.inputNow.inp, syncV := s.syncVNext, syncCnt := s.syncCntNext
      rdata := 0, script := s.script.tail, freeCount := s.freeCount + 1 } ∧
    (s.persisted.enable = false ∨ s.persisted.cycleLength = 0 →
      exec (.wrRun t) s = .next { c with phase := .idle, exitCause := .refused }) ∧
    (s.persisted.enable = true → s.persisted.cycleLength ≠ 0 → t = 0 →
      exec (.wrRun t) s = .next { c with phase := .idle, exitCause := .timeout, tsLatched := ⟨0, 0, 0, 0, 0⟩ }) ∧
    (s.persisted.enable = true → s.persisted.cycleLength ≠ 0 → t ≠ 0 → s.persisted.standalone = true →
      exec (.wrRun t) s = .next { c with phase := .running }) ∧
    (s.persisted.enable = true → s.persisted.cycleLength ≠ 0 → t ≠ 0 → s.persisted.standalone = false →
      exec (.wrRun t) s = .next { c with phase := .armed })

/-- R88, R116: RD_STATUS, the read of 0x10. Bit 0 is running, bits 3:1 exit_cause, bits 5:4 herald_index, the rest 0; the possible words
in a state that meets the invariants are the eight listed; nothing but bus_rdata differs from the tick with nothing on
the bus. -/
def Obligations.ReadStatus : Prop :=
  (∀ x : Word, busOperation 2 0x10 x = some .rdStatus) ∧
  ∀ s : State, ∃ u w, step s.silenced = .next u ∧ exec .rdStatus s = .next { u with rdata := w } ∧
    (w.getLsbD 0 = true ↔ s.phase ≠ .idle) ∧
    w.extractLsb' 1 3 = (match s.exitCause with
      | .none => 0#3 | .complete => 1#3 | .timeout => 2#3 | .heralded => 3#3 | .refused => 4#3) ∧
    w.extractLsb' 4 2 = s.heraldIndex ∧ w.extractLsb' 6 26 = 0#26 ∧
    (s.Inv → s.phase ≠ .idle → w = 0x01) ∧
    (s.Inv → w = 0x00 ∨ w = 0x01 ∨ w = 0x04 ∨ w = 0x06 ∨ w = 0x16 ∨ w = 0x26 ∨ w = 0x36 ∨ w = 0x08)

/-- R89, R117: RD_NCYCLES, the read of 0x11, returns the count of the state during the tick, zero-extended, and changes nothing. -/
def Obligations.ReadNCycles : Prop :=
  (∀ x : Word, busOperation 2 0x11 x = some .rdNcycles) ∧
  ∀ s : State, ∃ u w, step s.silenced = .next u ∧ exec .rdNcycles s = .next { u with rdata := w } ∧
    w.toNat = s.nCycles.toNat

/-- R90, R118: RD_TIMESTAMP(i), the read of 0x18 + i, returns ts_latched[i], zero-extended, and changes nothing. -/
def Obligations.ReadTimestamps : Prop :=
  (∀ x : Word, busOperation 2 0x18 x = some .rdTimestamp0 ∧ busOperation 2 0x19 x = some .rdTimestamp1 ∧
    busOperation 2 0x1A x = some .rdTimestamp2 ∧ busOperation 2 0x1B x = some .rdTimestamp3 ∧
    busOperation 2 0x1C x = some .rdTimestamp4) ∧
  ∀ s : State, ∃ u, step s.silenced = .next u ∧
    (∃ w : Word, exec .rdTimestamp0 s = .next { u with rdata := w } ∧ w.toNat = (s.tsLatched.get 0).toNat) ∧
    (∃ w : Word, exec .rdTimestamp1 s = .next { u with rdata := w } ∧ w.toNat = (s.tsLatched.get 1).toNat) ∧
    (∃ w : Word, exec .rdTimestamp2 s = .next { u with rdata := w } ∧ w.toNat = (s.tsLatched.get 2).toNat) ∧
    (∃ w : Word, exec .rdTimestamp3 s = .next { u with rdata := w } ∧ w.toNat = (s.tsLatched.get 3).toNat) ∧
    (∃ w : Word, exec .rdTimestamp4 s = .next { u with rdata := w } ∧ w.toNat = (s.tsLatched.get 4).toNat)

/-- R120: RD_ZERO, the read of any other address, returns 0 and changes nothing: the tick is the one with nothing on
the bus. -/
def Obligations.ReadZero : Prop :=
  (∀ (a : Addr) (x : Word), a ≠ 0x10 → a ≠ 0x11 → ¬ (0x18 ≤ a.toNat ∧ a.toNat ≤ 0x1C) →
    busOperation 2 a x = some (.rdZero a)) ∧
  ∀ (s : State) (a : Addr), ∃ u, step s.silenced = .next u ∧ u.rdata = 0 ∧ exec (.rdZero a) s = .next u

/-- R65, R70, R74: only a Run write changes the active bank and T_a; every other tick without reset leaves them. -/
def Obligations.OnlyRunWritesActiveBank : Prop :=
  ∀ s : State, s.inputNow.NoRun → ∃ t, step s = .next t ∧ SameActive s t

/-- R64, R69, R262: the persisted bank changes only by a write; a read, a Run write and the sequencer leave it, so the
written value is kept until the next write of it (R70). -/
def Obligations.OnlyWritesChangePersisted : Prop :=
  ∀ s : State, s.inputNow.rst = false → (s.inputNow.op ≠ 1 ∨ s.inputNow.addr = 0x01) →
    ∃ t, step s = .next t ∧ t.persisted = s.persisted

/-- R30, R70, R74: a tick without a Run write does not look at the persisted bank: with any other bank in its place,
everything but the persisted bank comes out the same. -/
def Obligations.PersistedBankUnseen : Prop :=
  ∀ (s : State) (b : Bank), s.inputNow.NoRun →
    ∃ t u, step s = .next t ∧ step { s with persisted := b } = .next u ∧ u = { t with persisted := u.persisted }

/-! ## Sequencer (spec/42_cycle_sequencer.md) and exits (spec/60_exceptions.md)

These hold in every tick without reset and without a Run write, whatever else the bus carries (R263(g), (h)). -/

/-- R172, R171, R295: in IDLE the sequencer does nothing, and nothing but a Run write leaves IDLE. -/
def Obligations.IdleDoesNothing : Prop :=
  ∀ s : State, s.inputNow.NoRun → s.phase = .idle → ∃ t, step s = .next t ∧
    t.phase = .idle ∧ SameRecord s t ∧ SameCycle s t ∧ SameActive s t ∧
    t.cycleTime = s.cycleTime ∧ t.elapsed = s.elapsed ∧
    (∀ c, s.outLine c = false) ∧ s.syncO = false

/-- R175, R238: ARMED starts when the master's validated level is 1 after this edge, or the slave's rises at it; the
ARMED timeout does not matter then. -/
def Obligations.ArmedStarts : Prop :=
  ∀ s : State, s.inputNow.NoRun → s.phase = .armed → s.syncVNext = true →
    (s.active.isMaster = true ∨ s.syncV = false) →
    ∃ t, step s = .next t ∧ t.phase = .running ∧ t.elapsed = 0 ∧ t.cycleTime = 0 ∧
      SameRecord s t ∧ SameCycle s t ∧ SameActive s t

/-- R176: without the start condition ARMED ends with TIMEOUT at the edge where elapsed + 1 >= T_a (computed without
wrap); in a state that meets the invariants, n_cycles is 0 and all five timestamps are latched as 0. -/
def Obligations.ArmedTimesOut : Prop :=
  ∀ s : State, s.inputNow.NoRun → s.phase = .armed →
    (s.syncVNext = false ∨ (s.active.isMaster = false ∧ s.syncV = true)) →
    s.maxRunTime.toNat ≤ s.elapsed.toNat + 1 →
    ∃ t, step s = .next t ∧ ExitedWith s t .timeout 0 s.tsWork s.nCycles ∧
      (s.Inv → t.nCycles = 0 ∧ t.tsLatched = ⟨0, 0, 0, 0, 0⟩)

/-- R174: otherwise ARMED counts one tick and nothing else changes. -/
def Obligations.ArmedWaits : Prop :=
  ∀ s : State, s.inputNow.NoRun → s.phase = .armed →
    (s.syncVNext = false ∨ (s.active.isMaster = false ∧ s.syncV = true)) →
    s.elapsed.toNat + 1 < s.maxRunTime.toNat →
    ∃ t, step s = .next t ∧ t.phase = .armed ∧ t.elapsed.toNat = s.elapsed.toNat + 1 ∧
      t.cycleTime = s.cycleTime ∧ SameRecord s t ∧ SameCycle s t ∧ SameActive s t

/-- R188, R190, R290: at a wrap edge with a matching slot, RUNNING exits HERALDED with the matcher's index, before
either timeout; the ending cycle is counted and the effective timestamps are latched. -/
def Obligations.RunningHeralded : Prop :=
  ∀ (s : State) (idx : BitVec 2), s.inputNow.NoRun → s.phase = .running →
    s.cycleTime = s.active.cycleLength - 1 → s.matchIndex = some idx →
    ∃ t, step s = .next t ∧ ExitedWith s t .heralded idx s.tsE (s.nCycles + 1)

/-- R186, R184, R290: without a herald exit, RUNNING exits TIMEOUT at the edge where elapsed + 1 >= T_a; the cycle
that ends at that edge is counted modulo 2^14. -/
def Obligations.RunningTimesOut : Prop :=
  ∀ s : State, s.inputNow.NoRun → s.phase = .running →
    (s.cycleTime ≠ s.active.cycleLength - 1 ∨ s.matchIndex = none) →
    s.maxRunTime.toNat ≤ s.elapsed.toNat + 1 →
    ∃ t, step s = .next t ∧ ExitedWith s t .timeout 0 s.tsE
      (if s.cycleTime = s.active.cycleLength - 1 then s.nCycles + 1 else s.nCycles)

/-- R189, R241: in a paired role, when neither of the exits before applies, RUNNING exits TIMEOUT at an edge after
which the validated partner level is 0. -/
def Obligations.RunningLosesPartner : Prop :=
  ∀ s : State, s.inputNow.NoRun → s.phase = .running →
    (s.cycleTime ≠ s.active.cycleLength - 1 ∨ s.matchIndex = none) →
    s.elapsed.toNat + 1 < s.maxRunTime.toNat →
    s.active.standalone = false → s.syncVNext = false →
    ∃ t, step s = .next t ∧ ExitedWith s t .timeout 0 s.tsE
      (if s.cycleTime = s.active.cycleLength - 1 then s.nCycles + 1 else s.nCycles)

/-- R183, R184, R155: otherwise RUNNING goes on. At a wrap edge cycle_time returns to 0, n_cycles counts modulo 2^14 and
the cycle's record is emptied; at any other edge cycle_time advances and the effective values are kept. The partner is
never absent in standalone (R230). -/
def Obligations.RunningGoesOn : Prop :=
  ∀ s : State, s.inputNow.NoRun → s.phase = .running →
    (s.cycleTime ≠ s.active.cycleLength - 1 ∨ s.matchIndex = none) →
    s.elapsed.toNat + 1 < s.maxRunTime.toNat →
    (s.active.standalone = true ∨ s.syncVNext = true) →
    ∃ t, step s = .next t ∧ t.phase = .running ∧ t.elapsed.toNat = s.elapsed.toNat + 1 ∧
      t.exitCause = s.exitCause ∧ t.heraldIndex = s.heraldIndex ∧ t.tsLatched = s.tsLatched ∧ SameActive s t ∧
      (s.cycleTime = s.active.cycleLength - 1 →
        t.cycleTime = 0 ∧ t.nCycles.toNat = (s.nCycles.toNat + 1) % 16384 ∧ EmptyCycle t) ∧
      (s.cycleTime ≠ s.active.cycleLength - 1 →
        t.cycleTime = s.cycleTime + 1 ∧ t.nCycles = s.nCycles ∧
        t.sig = s.sigE ∧ t.seen4 = s.seen4E ∧ t.tsWork = s.tsE)

/-- R290: from the tick after an exit on, every output and sync_o is 0, and so they are in every IDLE state. -/
def Obligations.OutputsInactiveOutsideRunning : Prop :=
  ∀ s : State,
    (s.phase ≠ .running → s.output.out = 0) ∧ (s.phase = .idle → s.output.syncO = false)

/-- R43: ts_latched is written only by an exit and by a Run write in case ZERO. -/
def Obligations.LatchedTimesChangeOnlyAtExit : Prop :=
  ∀ s t : State, s.inputNow.rst = false → step s = .next t → t.tsLatched ≠ s.tsLatched →
    t.phase = .idle ∧
    ((s.inputNow.NoRun ∧ s.phase ≠ .idle ∧ (t.exitCause = .timeout ∨ t.exitCause = .heralded)) ∨
     (s.Presents (.wrRun 0) ∧ t.exitCause = .timeout ∧ t.tsLatched = ⟨0, 0, 0, 0, 0⟩))

/-! ## Windows, outputs, sampler, matcher -/

/-- R180: the window test. -/
def Obligations.WindowTest : Prop :=
  ∀ (w : Window) (ct : Time), inwin w ct = true ↔
    (w.tStart ≠ 0 ∧ w.tStart.toNat ≤ ct.toNat ∧ ct.toNat < w.tEnd.toNat)

/-- R181(e), (f), (g): in a cycle of L ticks a window that starts inside it and does not end before L is open from
t_start to the last tick of the cycle and at no other; and no window is open at cycle_time 0. -/
def Obligations.WindowCutAtWrap : Prop :=
  ∀ (w : Window) (ct : Time) (l : Nat), ct.toNat < l →
    (w.tStart ≠ 0 → l ≤ w.tEnd.toNat → (inwin w ct = true ↔ w.tStart.toNat ≤ ct.toNat)) ∧
    inwin w 0 = false

/-- R46, R182, R261: out[c] is high exactly while RUNNING and inside the window of output channel c; there is no channel
at or above N_OUT. -/
def Obligations.OutputLines : Prop :=
  ∀ (s : State) (c : Fin 4), s.output.out.getLsbD c.val = true ↔
    (c.val < nOutNat s.params.nOut ∧ s.phase = .running ∧ inwin (s.active.outWindow c) s.cycleTime = true)

/-- R47, R230, R232, R233: sync_o by role. -/
def Obligations.SyncOutput : Prop :=
  ∀ s : State,
    (s.active.standalone = true → s.output.syncO = false) ∧
    (s.active.standalone = false → s.active.isMaster = true → (s.output.syncO = true ↔ s.phase = .running)) ∧
    (s.active.standalone = false → s.active.isMaster = false →
      (s.output.syncO = true ↔ (s.phase = .armed ∨ s.phase = .running)))

/-- R230: in standalone the level of sync_i changes nothing but the filter's own two elements. (No reachable standalone
state is ARMED, R49(c).) -/
def Obligations.StandaloneIgnoresPartner : Prop :=
  ∀ (s : State) (level : Bool), s.active.standalone = true → s.phase ≠ .armed →
    ∃ t u, step s = .next t ∧ step (s.driveSync level) = .next u ∧
      u = { t with syncV := u.syncV, syncCnt := u.syncCnt }

/-- R152, R153, R155: the gated channels. An event is a rising edge; it is accepted when the channel has none in this
cycle and its window is open; the first one sets the channel's bit and records cycle_time. -/
def Obligations.SamplerGatedChannels : Prop :=
  ∀ (s : State) (i : Fin 4) (hit : Bool),
    hit = (s.inputNow.inp.getLsbD i.val && !s.inPrev.getLsbD i.val && !s.sig.getLsbD i.val &&
      inwin (s.active.gateWindow s.params.nOut i) s.cycleTime) →
    s.sigE.getLsbD i.val = (s.sig.getLsbD i.val || hit) ∧
    s.tsE.get ⟨i.val, by omega⟩ = (if hit then s.cycleTime else s.tsWork.get ⟨i.val, by omega⟩)

/-- R152, R154, R155: the reference channel. No window applies. -/
def Obligations.SamplerReferenceChannel : Prop :=
  ∀ (s : State) (hit : Bool),
    hit = (s.inputNow.inp.getLsbD 4 && !s.inPrev.getLsbD 4 && !s.seen4) →
    s.seen4E = (s.seen4 || hit) ∧ s.tsE.get 4 = (if hit then s.cycleTime else s.tsWork.get 4)

/-- R211, R212: slot k is reported exactly when it is enabled, its pattern equals the effective sampled pattern in all
four bits, and no lower slot does; nothing is reported when no slot does. -/
def Obligations.MatcherLowestSlot : Prop :=
  ∀ s : State,
    (∀ k : Fin 4, s.matchIndex = some (BitVec.ofNat 2 k.val) ↔
      ((s.active.heralds.get k).enabled = true ∧ s.sigE = (s.active.heralds.get k).pattern ∧
        ∀ j : Fin 4, j < k →
          ¬((s.active.heralds.get j).enabled = true ∧ s.sigE = (s.active.heralds.get j).pattern))) ∧
    (s.matchIndex = none ↔
      ∀ k : Fin 4, ¬((s.active.heralds.get k).enabled = true ∧ s.sigE = (s.active.heralds.get k).pattern))

/-- R214: with no event in the cycle, an enabled zero pattern ends the run HERALDED at the wrap edge. -/
def Obligations.ZeroPatternEndsSilentCycle : Prop :=
  ∀ (s : State) (k : Fin 4), s.inputNow.NoRun → s.phase = .running →
    s.cycleTime = s.active.cycleLength - 1 → s.sigE = 0 →
    s.active.heralds.get k = { pattern := 0, enabled := true } →
    ∃ t, step s = .next t ∧ t.phase = .idle ∧ t.exitCause = .heralded ∧ t.heraldIndex.toNat ≤ k.val ∧
      t.nCycles = s.nCycles + 1

/-! ## Invariants -/

/-- The reset state meets the invariants of R49 and the ranges of R158, and with them the clauses of State.Inv that are
the model's own: filterCount (log 7) and absentWindow (log 9). -/
def Obligations.ResetMeetsInvariants : Prop := State.reset.Inv ∧ State.reset.TimesInv

/-- R49: every step keeps the invariants, from every state that meets them and whatever the inputs; and with them the
clauses of State.Inv that are the model's own: filterCount (log 7) and absentWindow (log 9). -/
def Obligations.StepKeepsInvariants : Prop :=
  ∀ s t : State, s.Inv → step s = .next t → t.Inv

/-- R158: every step keeps the ranges of the timestamps, from every state that meets R49 and them. -/
def Obligations.StepKeepsTimestampRanges : Prop :=
  ∀ s t : State, s.Inv → s.TimesInv → step s = .next t → t.TimesInv

/-- R9, R48: no step changes an implementation parameter (log 5). -/
def Obligations.ParametersAreFixed : Prop :=
  ∀ s : State, ∃ t, step s = .next t ∧ t.params = s.params

/-! ## Runs of many ticks -/

/-- R235, R236: from a filter at rest, k consecutive samples of the other level leave the validated level as it was
while k is less than SYNC_FILTER and turn it at the SYNC_FILTER-th, whatever the bus does. -/
def Obligations.FilterTurnsAfterSyncFilter : Prop :=
  ∀ (s : State) (k : Nat), s.syncCnt = 0 → 1 ≤ k → k ≤ s.params.syncFilter → k ≤ s.script.length →
    (∀ i ∈ s.script.take k, i.rst = false ∧ i.syncI = !s.syncV) →
    ∃ t, Host.Core.run core k s = .next t ∧
      (k < s.params.syncFilter → t.syncV = s.syncV ∧ t.syncCnt = k) ∧
      (k = s.params.syncFilter → t.syncV = !s.syncV ∧ t.syncCnt = 0)

/-- R193: a standalone run of T ticks with cycle length L and no herald enabled, tick by tick and at its end. -/
def Obligations.StandaloneRun : Prop :=
  ∀ (s : State) (T : Word) (L : Nat), s.Presents (.wrRun T) → T ≠ 0 →
    s.persisted.enable = true → s.persisted.standalone = true →
    s.persisted.cycleLength.toNat = L → L ≠ 0 →
    (∀ k, (s.persisted.heralds.get k).enabled = false) →
    (T.toNat + 1 ≤ s.script.length ∧ ∀ i ∈ s.script.tail.take T.toNat, i.NoRun) →
    (∀ j, j < T.toNat → ∃ t, Host.Core.run core (j + 1) s = .next t ∧ t.phase = .running ∧
      t.cycleTime.toNat = j % L ∧ t.elapsed.toNat = j ∧ t.nCycles.toNat = j / L % 16384 ∧
      t.nCyclesWord.toNat = j / L % 16384 ∧
      ∀ c : Fin 4, t.outLine c = (decide (c.val < nOutNat s.params.nOut) &&
        inwin (s.persisted.outWindow c) (BitVec.ofNat 14 (j % L)))) ∧
    ∃ t, Host.Core.run core (T.toNat + 1) s = .next t ∧ t.phase = .idle ∧
      t.nCyclesWord.toNat = T.toNat / L % 16384 ∧ t.statusWord = 0x4

/-- R176, R240, R246: a slave whose master never raises the trigger is ARMED for exactly T ticks with every output 0
and sync_o 1, and then IDLE with TIMEOUT, NCycles 0 and timestamps 0. -/
def Obligations.SlaveWithoutMaster : Prop :=
  ∀ (s : State) (T : Word), s.Presents (.wrRun T) → T ≠ 0 →
    s.persisted.enable = true → s.persisted.standalone = false → s.persisted.isMaster = false →
    s.persisted.cycleLength ≠ 0 → s.syncV = false →
    (T.toNat + 1 ≤ s.script.length ∧ (∀ i ∈ s.script.take (T.toNat + 1), i.syncI = false) ∧
      ∀ i ∈ s.script.tail.take T.toNat, i.NoRun) →
    (∀ j, j < T.toNat → ∃ t, Host.Core.run core (j + 1) s = .next t ∧ t.phase = .armed ∧
      t.output.out = 0 ∧ t.syncO = true ∧ t.statusWord = 0x1) ∧
    ∃ t, Host.Core.run core (T.toNat + 1) s = .next t ∧ t.phase = .idle ∧ t.statusWord = 0x4 ∧
      t.nCyclesWord = 0 ∧ (∀ i, t.timestampWord i = 0) ∧ t.output.out = 0 ∧ t.syncO = false

/-! ## The pair (spec/44_sync_controller.md) -/

/-- R231: one tick of a pair is one tick of each, with its sync_i at the level the other drives in that tick. -/
def Obligations.PairLinesCrossed : Prop :=
  ∀ p : Pair, ∃ a b, step (p.one.driveSync p.two.output.syncO) = .next a ∧
    step (p.two.driveSync p.one.output.syncO) = .next b ∧ p.step = .next { one := a, two := b } ∧
    (p.one.driveSync p.two.output.syncO).inputNow = { p.one.inputNow with syncI := p.two.output.syncO } ∧
    (p.two.driveSync p.one.output.syncO).inputNow = { p.two.inputNow with syncI := p.one.output.syncO }

/-- R239: when the slave is ARMED with its filter at 0 in the master's run tick 0 and the trigger stays high, the
slave's run tick 0 is SYNC_FILTER ticks later, and not sooner. -/
def Obligations.PairLockStepOffset : Prop :=
  ∀ (p : Pair) (n : Nat), p.two.params.syncFilter = n → 1 ≤ n →
    p.two.phase = .armed → p.two.active.isMaster = false → p.two.syncV = false → p.two.syncCnt = 0 →
    p.two.elapsed.toNat + n ≤ p.two.maxRunTime.toNat → p.two.QuietFor n →
    (∀ k q, k < n → Pair.run k p = .next q → q.one.output.syncO = true) →
    (∀ k, k < n → ∃ q, Pair.run k p = .next q ∧ q.two.phase = .armed) ∧
    ∃ q, Pair.run n p = .next q ∧ q.two.phase = .running ∧ q.two.elapsed = 0 ∧ q.two.cycleTime = 0

/-- R236, R242: a master that starts from its run tick 0 and runs D ticks, with a slave in lock step that has the same
cycle length, enables no herald and is not bound by its own time, leaves both IDLE with the same n_cycles, SYNC_FILTER
ticks after the master's end. D is at least SYNC_FILTER, so that the slave's filter turns at all. -/
def Obligations.PairCountsAgree : Prop :=
  ∀ (p : Pair) (n D : Nat), p.one.Inv → p.two.Inv → p.two.params.syncFilter = n → n ≤ D →
    p.one.phase = .running → p.one.active.isMaster = true → p.one.active.standalone = false →
    p.one.elapsed = 0 → p.one.cycleTime = 0 → p.one.nCycles = 0 →
    p.two.phase = .armed → p.two.active.isMaster = false → p.two.syncV = false → p.two.syncCnt = 0 →
    p.two.active.cycleLength = p.one.active.cycleLength →
    (∀ k, (p.two.active.heralds.get k).enabled = false) →
    p.two.elapsed.toNat + n ≤ p.two.maxRunTime.toNat → D ≤ p.two.maxRunTime.toNat →
    p.one.QuietFor (D + n) → p.two.QuietFor (D + n) →
    (∀ k q, k < D → Pair.run k p = .next q → q.one.phase = .running) →
    (∀ q, Pair.run D p = .next q → q.one.phase = .idle) →
    ∃ q, Pair.run (D + n) p = .next q ∧ q.one.phase = .idle ∧ q.two.phase = .idle ∧
      q.one.nCycles = q.two.nCycles ∧ q.two.exitCause = .timeout ∧
      q.two.nCycles.toNat = D / p.two.active.cycleLength.toNat % 16384

/-! ## The parameter HERALD_LAYOUT -/

/-- R9, R86: HERALD_LAYOUT is a function parameter: every bijection from the low 20 bits to the eight fields is the
unpacking of some value of it, so a machine, and each machine of a pair for itself, can have any of them (log 6). -/
def Obligations.EveryHeraldLayoutIsAValue : Prop :=
  ∀ f : BitVec 20 → Quad Herald, Function.Bijective f → ∃ l : HeraldLayout, heraldUnpack l = f
end

