-- ==== Sys2Proof/Laws/Encoding.lean ====
section
/-! SUPPORT. The pieces of the operation word: what each format writes is what the decoder takes out of it. -/

namespace Sys2Proof

@[simp] theorem opIsWrite_encodeWrite (a : Addr) (w : Word) : opIsWrite (encodeWrite a w) = true := by
  simp [opIsWrite, encodeWrite]

@[simp] theorem opAddr_encodeWrite (a : Addr) (w : Word) : opAddr (encodeWrite a w) = a := by
  ext k hk
  interval_cases k <;> simp [opAddr, encodeWrite]

@[simp] theorem opData_encodeWrite (a : Addr) (w : Word) : opData (encodeWrite a w) = w := by
  ext k hk
  interval_cases k <;> simp [opData, encodeWrite]

@[simp] theorem opIsWrite_encodeRead (a : Addr) : opIsWrite (encodeRead a) = false := by
  simp [opIsWrite, encodeRead]

@[simp] theorem opAddr_encodeRead (a : Addr) : opAddr (encodeRead a) = a := by
  ext k hk
  interval_cases k <;> simp [opAddr, encodeRead]

@[simp] theorem opData_encodeRead (a : Addr) : opData (encodeRead a) = 0 := by
  ext k hk
  interval_cases k <;> simp [opData, encodeRead]

/-- A write's operation word decodes as that write. -/
theorem decode_encodeWrite (a : Addr) (w : Word) : decode (encodeWrite a w) = .ok (decodeWrite a w) := by
  simp [decode]

/-- A read's operation word decodes as that read. -/
theorem decode_encodeRead (a : Addr) : decode (encodeRead a) = .ok (decodeRead a) := by
  simp [decode]

@[simp] theorem windowStart_windowWord (b e : Time) : windowStart (windowWord b e) = b := by
  ext k hk
  interval_cases k <;> simp [windowStart, windowWord]

@[simp] theorem windowEnd_windowWord (b e : Time) : windowEnd (windowWord b e) = e := by
  ext k hk
  interval_cases k <;> simp [windowEnd, windowWord]

/-- A reserved write address decodes as an ignored write. -/
theorem decodeWrite_reserved (a : Addr) (w : Word) (h : reservedWrite a = true) :
    decodeWrite a w = .wrIgnored a := by
  have outside : ∀ a : Addr, reservedWrite a = true → a.toNat ∉ [0, 1, 2, 3, 8, 9, 10, 11, 12, 13, 14, 15] := by
    decide
  have h2 := outside a h
  unfold decodeWrite
  simp only [List.mem_cons, not_or] at h2
  split <;> first | rfl | omega

/-- A reserved read address decodes as a read of zero. -/
theorem decodeRead_reserved : ∀ a : Addr, reservedRead a = true → decodeRead a = .rdZero a := by
  decide

end Sys2Proof
end

