-- ==== Sys2Proof/Laws/State.lean ====
section
/-! SUPPORT. For each named update of State, what it leaves in each field: true by unfolding once, so that no later
proof unfolds a record update. -/

namespace Sys2Proof.Machine

/-! endTick -/

@[simp] theorem State.endTick_params (s n : State) (r : Word) :
    (s.endTick n r).params = n.params := rfl

@[simp] theorem State.endTick_persisted (s n : State) (r : Word) :
    (s.endTick n r).persisted = n.persisted := rfl

@[simp] theorem State.endTick_active (s n : State) (r : Word) :
    (s.endTick n r).active = n.active := rfl

@[simp] theorem State.endTick_maxRunTime (s n : State) (r : Word) :
    (s.endTick n r).maxRunTime = n.maxRunTime := rfl

@[simp] theorem State.endTick_phase (s n : State) (r : Word) :
    (s.endTick n r).phase = n.phase := rfl

@[simp] theorem State.endTick_cycleTime (s n : State) (r : Word) :
    (s.endTick n r).cycleTime = n.cycleTime := rfl

@[simp] theorem State.endTick_elapsed (s n : State) (r : Word) :
    (s.endTick n r).elapsed = n.elapsed := rfl

@[simp] theorem State.endTick_nCycles (s n : State) (r : Word) :
    (s.endTick n r).nCycles = n.nCycles := rfl

@[simp] theorem State.endTick_exitCause (s n : State) (r : Word) :
    (s.endTick n r).exitCause = n.exitCause := rfl

@[simp] theorem State.endTick_heraldIndex (s n : State) (r : Word) :
    (s.endTick n r).heraldIndex = n.heraldIndex := rfl

@[simp] theorem State.endTick_inPrev (s n : State) (r : Word) :
    (s.endTick n r).inPrev = s.inputNow.inp := rfl

@[simp] theorem State.endTick_sig (s n : State) (r : Word) :
    (s.endTick n r).sig = n.sig := rfl

@[simp] theorem State.endTick_seen4 (s n : State) (r : Word) :
    (s.endTick n r).seen4 = n.seen4 := rfl

@[simp] theorem State.endTick_tsWork (s n : State) (r : Word) :
    (s.endTick n r).tsWork = n.tsWork := rfl

@[simp] theorem State.endTick_tsLatched (s n : State) (r : Word) :
    (s.endTick n r).tsLatched = n.tsLatched := rfl

@[simp] theorem State.endTick_syncV (s n : State) (r : Word) :
    (s.endTick n r).syncV = s.syncVNext := rfl

@[simp] theorem State.endTick_syncCnt (s n : State) (r : Word) :
    (s.endTick n r).syncCnt = s.syncCntNext := rfl

@[simp] theorem State.endTick_rdata (s n : State) (r : Word) :
    (s.endTick n r).rdata = r := rfl

@[simp] theorem State.endTick_script (s n : State) (r : Word) :
    (s.endTick n r).script = s.script.tail := rfl

@[simp] theorem State.endTick_freeCount (s n : State) (r : Word) :
    (s.endTick n r).freeCount = s.freeCount + 1 := rfl

/-! exit -/

@[simp] theorem State.exit_params (s : State) (c : ExitCause) (i : BitVec 2) (ts : Quint Time) (n : Time) :
    (s.exit c i ts n).params = s.params := rfl

@[simp] theorem State.exit_persisted (s : State) (c : ExitCause) (i : BitVec 2) (ts : Quint Time) (n : Time) :
    (s.exit c i ts n).persisted = s.persisted := rfl

@[simp] theorem State.exit_active (s : State) (c : ExitCause) (i : BitVec 2) (ts : Quint Time) (n : Time) :
    (s.exit c i ts n).active = s.active := rfl

@[simp] theorem State.exit_maxRunTime (s : State) (c : ExitCause) (i : BitVec 2) (ts : Quint Time) (n : Time) :
    (s.exit c i ts n).maxRunTime = s.maxRunTime := rfl

@[simp] theorem State.exit_phase (s : State) (c : ExitCause) (i : BitVec 2) (ts : Quint Time) (n : Time) :
    (s.exit c i ts n).phase = .idle := rfl

@[simp] theorem State.exit_cycleTime (s : State) (c : ExitCause) (i : BitVec 2) (ts : Quint Time) (n : Time) :
    (s.exit c i ts n).cycleTime = s.cycleTime := rfl

@[simp] theorem State.exit_elapsed (s : State) (c : ExitCause) (i : BitVec 2) (ts : Quint Time) (n : Time) :
    (s.exit c i ts n).elapsed = s.elapsed := rfl

@[simp] theorem State.exit_nCycles (s : State) (c : ExitCause) (i : BitVec 2) (ts : Quint Time) (n : Time) :
    (s.exit c i ts n).nCycles = n := rfl

@[simp] theorem State.exit_exitCause (s : State) (c : ExitCause) (i : BitVec 2) (ts : Quint Time) (n : Time) :
    (s.exit c i ts n).exitCause = c := rfl

@[simp] theorem State.exit_heraldIndex (s : State) (c : ExitCause) (i : BitVec 2) (ts : Quint Time) (n : Time) :
    (s.exit c i ts n).heraldIndex = i := rfl

@[simp] theorem State.exit_inPrev (s : State) (c : ExitCause) (i : BitVec 2) (ts : Quint Time) (n : Time) :
    (s.exit c i ts n).inPrev = s.inPrev := rfl

@[simp] theorem State.exit_sig (s : State) (c : ExitCause) (i : BitVec 2) (ts : Quint Time) (n : Time) :
    (s.exit c i ts n).sig = 0 := rfl

@[simp] theorem State.exit_seen4 (s : State) (c : ExitCause) (i : BitVec 2) (ts : Quint Time) (n : Time) :
    (s.exit c i ts n).seen4 = false := rfl

@[simp] theorem State.exit_tsWork (s : State) (c : ExitCause) (i : BitVec 2) (ts : Quint Time) (n : Time) :
    (s.exit c i ts n).tsWork = noTimes := rfl

@[simp] theorem State.exit_tsLatched (s : State) (c : ExitCause) (i : BitVec 2) (ts : Quint Time) (n : Time) :
    (s.exit c i ts n).tsLatched = ts := rfl

@[simp] theorem State.exit_syncV (s : State) (c : ExitCause) (i : BitVec 2) (ts : Quint Time) (n : Time) :
    (s.exit c i ts n).syncV = s.syncV := rfl

@[simp] theorem State.exit_syncCnt (s : State) (c : ExitCause) (i : BitVec 2) (ts : Quint Time) (n : Time) :
    (s.exit c i ts n).syncCnt = s.syncCnt := rfl

@[simp] theorem State.exit_rdata (s : State) (c : ExitCause) (i : BitVec 2) (ts : Quint Time) (n : Time) :
    (s.exit c i ts n).rdata = s.rdata := rfl

@[simp] theorem State.exit_script (s : State) (c : ExitCause) (i : BitVec 2) (ts : Quint Time) (n : Time) :
    (s.exit c i ts n).script = s.script := rfl

@[simp] theorem State.exit_freeCount (s : State) (c : ExitCause) (i : BitVec 2) (ts : Quint Time) (n : Time) :
    (s.exit c i ts n).freeCount = s.freeCount := rfl

/-! snapshot -/

@[simp] theorem State.snapshot_params (s : State) (t : Word) :
    (s.snapshot t).params = s.params := rfl

@[simp] theorem State.snapshot_persisted (s : State) (t : Word) :
    (s.snapshot t).persisted = s.persisted := rfl

@[simp] theorem State.snapshot_active (s : State) (t : Word) :
    (s.snapshot t).active = s.persisted := rfl

@[simp] theorem State.snapshot_maxRunTime (s : State) (t : Word) :
    (s.snapshot t).maxRunTime = t := rfl

@[simp] theorem State.snapshot_phase (s : State) (t : Word) :
    (s.snapshot t).phase = s.phase := rfl

@[simp] theorem State.snapshot_cycleTime (s : State) (t : Word) :
    (s.snapshot t).cycleTime = 0 := rfl

@[simp] theorem State.snapshot_elapsed (s : State) (t : Word) :
    (s.snapshot t).elapsed = 0 := rfl

@[simp] theorem State.snapshot_nCycles (s : State) (t : Word) :
    (s.snapshot t).nCycles = 0 := rfl

@[simp] theorem State.snapshot_exitCause (s : State) (t : Word) :
    (s.snapshot t).exitCause = .none := rfl

@[simp] theorem State.snapshot_heraldIndex (s : State) (t : Word) :
    (s.snapshot t).heraldIndex = 0 := rfl

@[simp] theorem State.snapshot_inPrev (s : State) (t : Word) :
    (s.snapshot t).inPrev = s.inPrev := rfl

@[simp] theorem State.snapshot_sig (s : State) (t : Word) :
    (s.snapshot t).sig = 0 := rfl

@[simp] theorem State.snapshot_seen4 (s : State) (t : Word) :
    (s.snapshot t).seen4 = false := rfl

@[simp] theorem State.snapshot_tsWork (s : State) (t : Word) :
    (s.snapshot t).tsWork = noTimes := rfl

@[simp] theorem State.snapshot_tsLatched (s : State) (t : Word) :
    (s.snapshot t).tsLatched = s.tsLatched := rfl

@[simp] theorem State.snapshot_syncV (s : State) (t : Word) :
    (s.snapshot t).syncV = s.syncV := rfl

@[simp] theorem State.snapshot_syncCnt (s : State) (t : Word) :
    (s.snapshot t).syncCnt = s.syncCnt := rfl

@[simp] theorem State.snapshot_rdata (s : State) (t : Word) :
    (s.snapshot t).rdata = s.rdata := rfl

@[simp] theorem State.snapshot_script (s : State) (t : Word) :
    (s.snapshot t).script = s.script := rfl

@[simp] theorem State.snapshot_freeCount (s : State) (t : Word) :
    (s.snapshot t).freeCount = s.freeCount := rfl

/-! resetEdge -/

@[simp] theorem State.resetEdge_params (s : State) :
    (s.resetEdge).params = s.params := rfl

@[simp] theorem State.resetEdge_persisted (s : State) :
    (s.resetEdge).persisted = State.reset.persisted := rfl

@[simp] theorem State.resetEdge_active (s : State) :
    (s.resetEdge).active = State.reset.active := rfl

@[simp] theorem State.resetEdge_maxRunTime (s : State) :
    (s.resetEdge).maxRunTime = State.reset.maxRunTime := rfl

@[simp] theorem State.resetEdge_phase (s : State) :
    (s.resetEdge).phase = State.reset.phase := rfl

@[simp] theorem State.resetEdge_cycleTime (s : State) :
    (s.resetEdge).cycleTime = State.reset.cycleTime := rfl

@[simp] theorem State.resetEdge_elapsed (s : State) :
    (s.resetEdge).elapsed = State.reset.elapsed := rfl

@[simp] theorem State.resetEdge_nCycles (s : State) :
    (s.resetEdge).nCycles = State.reset.nCycles := rfl

@[simp] theorem State.resetEdge_exitCause (s : State) :
    (s.resetEdge).exitCause = State.reset.exitCause := rfl

@[simp] theorem State.resetEdge_heraldIndex (s : State) :
    (s.resetEdge).heraldIndex = State.reset.heraldIndex := rfl

@[simp] theorem State.resetEdge_inPrev (s : State) :
    (s.resetEdge).inPrev = State.reset.inPrev := rfl

@[simp] theorem State.resetEdge_sig (s : State) :
    (s.resetEdge).sig = State.reset.sig := rfl

@[simp] theorem State.resetEdge_seen4 (s : State) :
    (s.resetEdge).seen4 = State.reset.seen4 := rfl

@[simp] theorem State.resetEdge_tsWork (s : State) :
    (s.resetEdge).tsWork = State.reset.tsWork := rfl

@[simp] theorem State.resetEdge_tsLatched (s : State) :
    (s.resetEdge).tsLatched = State.reset.tsLatched := rfl

@[simp] theorem State.resetEdge_syncV (s : State) :
    (s.resetEdge).syncV = State.reset.syncV := rfl

@[simp] theorem State.resetEdge_syncCnt (s : State) :
    (s.resetEdge).syncCnt = State.reset.syncCnt := rfl

@[simp] theorem State.resetEdge_rdata (s : State) :
    (s.resetEdge).rdata = s.busRdata := rfl

@[simp] theorem State.resetEdge_script (s : State) :
    (s.resetEdge).script = s.script.tail := rfl

@[simp] theorem State.resetEdge_freeCount (s : State) :
    (s.resetEdge).freeCount = s.freeCount + 1 := rfl

/-! tickStoring -/

@[simp] theorem State.tickStoring_params (s : State) (b : Bank) :
    (s.tickStoring b).params = (s.tickWith 0).params := rfl

@[simp] theorem State.tickStoring_persisted (s : State) (b : Bank) :
    (s.tickStoring b).persisted = b := rfl

@[simp] theorem State.tickStoring_active (s : State) (b : Bank) :
    (s.tickStoring b).active = (s.tickWith 0).active := rfl

@[simp] theorem State.tickStoring_maxRunTime (s : State) (b : Bank) :
    (s.tickStoring b).maxRunTime = (s.tickWith 0).maxRunTime := rfl

@[simp] theorem State.tickStoring_phase (s : State) (b : Bank) :
    (s.tickStoring b).phase = (s.tickWith 0).phase := rfl

@[simp] theorem State.tickStoring_cycleTime (s : State) (b : Bank) :
    (s.tickStoring b).cycleTime = (s.tickWith 0).cycleTime := rfl

@[simp] theorem State.tickStoring_elapsed (s : State) (b : Bank) :
    (s.tickStoring b).elapsed = (s.tickWith 0).elapsed := rfl

@[simp] theorem State.tickStoring_nCycles (s : State) (b : Bank) :
    (s.tickStoring b).nCycles = (s.tickWith 0).nCycles := rfl

@[simp] theorem State.tickStoring_exitCause (s : State) (b : Bank) :
    (s.tickStoring b).exitCause = (s.tickWith 0).exitCause := rfl

@[simp] theorem State.tickStoring_heraldIndex (s : State) (b : Bank) :
    (s.tickStoring b).heraldIndex = (s.tickWith 0).heraldIndex := rfl

@[simp] theorem State.tickStoring_inPrev (s : State) (b : Bank) :
    (s.tickStoring b).inPrev = (s.tickWith 0).inPrev := rfl

@[simp] theorem State.tickStoring_sig (s : State) (b : Bank) :
    (s.tickStoring b).sig = (s.tickWith 0).sig := rfl

@[simp] theorem State.tickStoring_seen4 (s : State) (b : Bank) :
    (s.tickStoring b).seen4 = (s.tickWith 0).seen4 := rfl

@[simp] theorem State.tickStoring_tsWork (s : State) (b : Bank) :
    (s.tickStoring b).tsWork = (s.tickWith 0).tsWork := rfl

@[simp] theorem State.tickStoring_tsLatched (s : State) (b : Bank) :
    (s.tickStoring b).tsLatched = (s.tickWith 0).tsLatched := rfl

@[simp] theorem State.tickStoring_syncV (s : State) (b : Bank) :
    (s.tickStoring b).syncV = (s.tickWith 0).syncV := rfl

@[simp] theorem State.tickStoring_syncCnt (s : State) (b : Bank) :
    (s.tickStoring b).syncCnt = (s.tickWith 0).syncCnt := rfl

@[simp] theorem State.tickStoring_rdata (s : State) (b : Bank) :
    (s.tickStoring b).rdata = 0 := rfl

@[simp] theorem State.tickStoring_script (s : State) (b : Bank) :
    (s.tickStoring b).script = (s.tickWith 0).script := rfl

@[simp] theorem State.tickStoring_freeCount (s : State) (b : Bank) :
    (s.tickStoring b).freeCount = (s.tickWith 0).freeCount := rfl

/-! silenced -/

@[simp] theorem State.silenced_params (s : State) :
    (s.silenced).params = s.params := rfl

@[simp] theorem State.silenced_persisted (s : State) :
    (s.silenced).persisted = s.persisted := rfl

@[simp] theorem State.silenced_active (s : State) :
    (s.silenced).active = s.active := rfl

@[simp] theorem State.silenced_maxRunTime (s : State) :
    (s.silenced).maxRunTime = s.maxRunTime := rfl

@[simp] theorem State.silenced_phase (s : State) :
    (s.silenced).phase = s.phase := rfl

@[simp] theorem State.silenced_cycleTime (s : State) :
    (s.silenced).cycleTime = s.cycleTime := rfl

@[simp] theorem State.silenced_elapsed (s : State) :
    (s.silenced).elapsed = s.elapsed := rfl

@[simp] theorem State.silenced_nCycles (s : State) :
    (s.silenced).nCycles = s.nCycles := rfl

@[simp] theorem State.silenced_exitCause (s : State) :
    (s.silenced).exitCause = s.exitCause := rfl

@[simp] theorem State.silenced_heraldIndex (s : State) :
    (s.silenced).heraldIndex = s.heraldIndex := rfl

@[simp] theorem State.silenced_inPrev (s : State) :
    (s.silenced).inPrev = s.inPrev := rfl

@[simp] theorem State.silenced_sig (s : State) :
    (s.silenced).sig = s.sig := rfl

@[simp] theorem State.silenced_seen4 (s : State) :
    (s.silenced).seen4 = s.seen4 := rfl

@[simp] theorem State.silenced_tsWork (s : State) :
    (s.silenced).tsWork = s.tsWork := rfl

@[simp] theorem State.silenced_tsLatched (s : State) :
    (s.silenced).tsLatched = s.tsLatched := rfl

@[simp] theorem State.silenced_syncV (s : State) :
    (s.silenced).syncV = s.syncV := rfl

@[simp] theorem State.silenced_syncCnt (s : State) :
    (s.silenced).syncCnt = s.syncCnt := rfl

@[simp] theorem State.silenced_rdata (s : State) :
    (s.silenced).rdata = s.rdata := rfl

@[simp] theorem State.silenced_script (s : State) :
    (s.silenced).script = { s.inputNow with rst := false, op := 0 } :: s.script.tail := rfl

@[simp] theorem State.silenced_freeCount (s : State) :
    (s.silenced).freeCount = s.freeCount := rfl

/-! driveSync -/

@[simp] theorem State.driveSync_params (s : State) (v : Bool) :
    (s.driveSync v).params = s.params := rfl

@[simp] theorem State.driveSync_persisted (s : State) (v : Bool) :
    (s.driveSync v).persisted = s.persisted := rfl

@[simp] theorem State.driveSync_active (s : State) (v : Bool) :
    (s.driveSync v).active = s.active := rfl

@[simp] theorem State.driveSync_maxRunTime (s : State) (v : Bool) :
    (s.driveSync v).maxRunTime = s.maxRunTime := rfl

@[simp] theorem State.driveSync_phase (s : State) (v : Bool) :
    (s.driveSync v).phase = s.phase := rfl

@[simp] theorem State.driveSync_cycleTime (s : State) (v : Bool) :
    (s.driveSync v).cycleTime = s.cycleTime := rfl

@[simp] theorem State.driveSync_elapsed (s : State) (v : Bool) :
    (s.driveSync v).elapsed = s.elapsed := rfl

@[simp] theorem State.driveSync_nCycles (s : State) (v : Bool) :
    (s.driveSync v).nCycles = s.nCycles := rfl

@[simp] theorem State.driveSync_exitCause (s : State) (v : Bool) :
    (s.driveSync v).exitCause = s.exitCause := rfl

@[simp] theorem State.driveSync_heraldIndex (s : State) (v : Bool) :
    (s.driveSync v).heraldIndex = s.heraldIndex := rfl

@[simp] theorem State.driveSync_inPrev (s : State) (v : Bool) :
    (s.driveSync v).inPrev = s.inPrev := rfl

@[simp] theorem State.driveSync_sig (s : State) (v : Bool) :
    (s.driveSync v).sig = s.sig := rfl

@[simp] theorem State.driveSync_seen4 (s : State) (v : Bool) :
    (s.driveSync v).seen4 = s.seen4 := rfl

@[simp] theorem State.driveSync_tsWork (s : State) (v : Bool) :
    (s.driveSync v).tsWork = s.tsWork := rfl

@[simp] theorem State.driveSync_tsLatched (s : State) (v : Bool) :
    (s.driveSync v).tsLatched = s.tsLatched := rfl

@[simp] theorem State.driveSync_syncV (s : State) (v : Bool) :
    (s.driveSync v).syncV = s.syncV := rfl

@[simp] theorem State.driveSync_syncCnt (s : State) (v : Bool) :
    (s.driveSync v).syncCnt = s.syncCnt := rfl

@[simp] theorem State.driveSync_rdata (s : State) (v : Bool) :
    (s.driveSync v).rdata = s.rdata := rfl

@[simp] theorem State.driveSync_script (s : State) (v : Bool) :
    (s.driveSync v).script = { s.inputNow with syncI := v } :: s.script.tail := rfl

@[simp] theorem State.driveSync_freeCount (s : State) (v : Bool) :
    (s.driveSync v).freeCount = s.freeCount := rfl

/-! withScript -/

@[simp] theorem State.withScript_params (s : State) (l : List TickInput) :
    (s.withScript l).params = s.params := rfl

@[simp] theorem State.withScript_persisted (s : State) (l : List TickInput) :
    (s.withScript l).persisted = s.persisted := rfl

@[simp] theorem State.withScript_active (s : State) (l : List TickInput) :
    (s.withScript l).active = s.active := rfl

@[simp] theorem State.withScript_maxRunTime (s : State) (l : List TickInput) :
    (s.withScript l).maxRunTime = s.maxRunTime := rfl

@[simp] theorem State.withScript_phase (s : State) (l : List TickInput) :
    (s.withScript l).phase = s.phase := rfl

@[simp] theorem State.withScript_cycleTime (s : State) (l : List TickInput) :
    (s.withScript l).cycleTime = s.cycleTime := rfl

@[simp] theorem State.withScript_elapsed (s : State) (l : List TickInput) :
    (s.withScript l).elapsed = s.elapsed := rfl

@[simp] theorem State.withScript_nCycles (s : State) (l : List TickInput) :
    (s.withScript l).nCycles = s.nCycles := rfl

@[simp] theorem State.withScript_exitCause (s : State) (l : List TickInput) :
    (s.withScript l).exitCause = s.exitCause := rfl

@[simp] theorem State.withScript_heraldIndex (s : State) (l : List TickInput) :
    (s.withScript l).heraldIndex = s.heraldIndex := rfl

@[simp] theorem State.withScript_inPrev (s : State) (l : List TickInput) :
    (s.withScript l).inPrev = s.inPrev := rfl

@[simp] theorem State.withScript_sig (s : State) (l : List TickInput) :
    (s.withScript l).sig = s.sig := rfl

@[simp] theorem State.withScript_seen4 (s : State) (l : List TickInput) :
    (s.withScript l).seen4 = s.seen4 := rfl

@[simp] theorem State.withScript_tsWork (s : State) (l : List TickInput) :
    (s.withScript l).tsWork = s.tsWork := rfl

@[simp] theorem State.withScript_tsLatched (s : State) (l : List TickInput) :
    (s.withScript l).tsLatched = s.tsLatched := rfl

@[simp] theorem State.withScript_syncV (s : State) (l : List TickInput) :
    (s.withScript l).syncV = s.syncV := rfl

@[simp] theorem State.withScript_syncCnt (s : State) (l : List TickInput) :
    (s.withScript l).syncCnt = s.syncCnt := rfl

@[simp] theorem State.withScript_rdata (s : State) (l : List TickInput) :
    (s.withScript l).rdata = s.rdata := rfl

@[simp] theorem State.withScript_script (s : State) (l : List TickInput) :
    (s.withScript l).script = l := rfl

@[simp] theorem State.withScript_freeCount (s : State) (l : List TickInput) :
    (s.withScript l).freeCount = s.freeCount := rfl

end Sys2Proof.Machine
end

