-- ==== Sys2Proof/Laws/Ops.lean ====
section
/-! SUPPORT. One lemma per shared operation saying everything it can do, and the inversion lemmas of exec and step,
for the provers to cite instead of unfolding. -/

namespace Sys2Proof.Machine

/-! ## Arrays -/

theorem Octet.get_set_same {α : Type} (q : Octet α) (j : Fin 8) (x : α) : (q.set j x).get j = x := by
  fin_cases j <;> rfl

theorem Octet.get_set_other {α : Type} (q : Octet α) (j k : Fin 8) (x : α) (h : k ≠ j) :
    (q.set j x).get k = q.get k := by
  fin_cases j <;> fin_cases k <;> first | rfl | exact absurd rfl h

@[simp] theorem bits4_bit0 (b3 b2 b1 b0 : Bool) : (bits4 b3 b2 b1 b0)[0] = b0 := by
  revert b3 b2 b1 b0; decide

@[simp] theorem bits4_bit1 (b3 b2 b1 b0 : Bool) : (bits4 b3 b2 b1 b0)[1] = b1 := by
  revert b3 b2 b1 b0; decide

@[simp] theorem bits4_bit2 (b3 b2 b1 b0 : Bool) : (bits4 b3 b2 b1 b0)[2] = b2 := by
  revert b3 b2 b1 b0; decide

@[simp] theorem bits4_bit3 (b3 b2 b1 b0 : Bool) : (bits4 b3 b2 b1 b0)[3] = b3 := by
  revert b3 b2 b1 b0; decide

/-! ## Herald layouts: every step undoes itself -/

/-- Flipping bits i and j of a word whose bits i and j differ. -/
theorem getLsbD_flip (i j k : Fin 20) (w : BitVec 20) (h : w.getLsbD i.val ≠ w.getLsbD j.val) :
    (w ^^^ (1#20 <<< i.val) ^^^ (1#20 <<< j.val)).getLsbD k.val =
      if k = i then w.getLsbD j.val else if k = j then w.getLsbD i.val else w.getLsbD k.val := by
  have bit : ∀ m : Fin 20, (1#20 <<< m.val).getLsbD k.val = decide (k = m) := by
    revert k; decide
  rw [BitVec.getLsbD_xor, BitVec.getLsbD_xor, bit, bit]
  have hij : i ≠ j := fun e => h (by rw [e])
  by_cases hi : k = i
  · subst hi
    simpa [hij] using Bool.not_eq.mpr h
  · by_cases hj : k = j
    · subst hj
      simpa [hi] using Bool.not_eq.mpr (Ne.symm h)
    · simp [hi, hj]

/-- The exchange of two bit positions, bit by bit. -/
theorem swapBits_getLsbD (i j k : Fin 20) (w : BitVec 20) :
    (swapBits i j w).getLsbD k.val =
      if k = i then w.getLsbD j.val else if k = j then w.getLsbD i.val else w.getLsbD k.val := by
  unfold swapBits
  split
  · rename_i h
    by_cases hi : k = i <;> by_cases hj : k = j <;> simp_all
  · rename_i h
    exact getLsbD_flip i j k w h

theorem swapBits_swapBits (i j : Fin 20) (w : BitVec 20) : swapBits i j (swapBits i j w) = w := by
  refine BitVec.eq_of_getLsbD_eq fun k hk => ?_
  refine (swapBits_getLsbD i j ⟨k, hk⟩ (swapBits i j w)).trans ?_
  rw [swapBits_getLsbD i j i, swapBits_getLsbD i j j, swapBits_getLsbD i j ⟨k, hk⟩]
  by_cases hi : (⟨k, hk⟩ : Fin 20) = i
  · subst hi
    split <;> simp_all
  · by_cases hj : (⟨k, hk⟩ : Fin 20) = j
    · subst hj
      simp [hi]
    · simp [hi, hj]

theorem swapWords_eq (a b w : BitVec 20) : swapWords a b w = Equiv.swap a b w := rfl

theorem layoutStep_layoutStep (st : LayoutStep) (w : BitVec 20) : layoutStep st (layoutStep st w) = w := by
  cases st with
  | swapBits i j => exact swapBits_swapBits i j w
  | swapWords a b => exact Equiv.swap_apply_self a b w

/-- A step of a layout's description is a bijection of the words. -/
theorem layoutStep_bijective (st : LayoutStep) : Function.Bijective (layoutStep st) :=
  Function.bijective_iff_has_inverse.mpr ⟨layoutStep st, layoutStep_layoutStep st, layoutStep_layoutStep st⟩

/-- Layout A loses no bit of the word and reaches every value of the eight fields (R85). -/
theorem heraldUnpackA_bijective : Function.Bijective heraldUnpackA := by
  constructor
  · intro x y h
    simp only [heraldUnpackA, Quad.mk.injEq, Herald.mk.injEq] at h
    obtain ⟨⟨p0, e0⟩, ⟨p1, e1⟩, ⟨p2, e2⟩, ⟨p3, e3⟩⟩ := h
    have bit : ∀ n j, j < 4 → x.extractLsb' n 4 = y.extractLsb' n 4 → x.getLsbD (n + j) = y.getLsbD (n + j) := by
      intro n j hj hp
      simpa [hj] using congrArg (fun z => z.getLsbD j) hp
    refine BitVec.eq_of_getLsbD_eq fun k hk => ?_
    interval_cases k
    · exact bit 0 0 (by omega) p0
    · exact bit 0 1 (by omega) p0
    · exact bit 0 2 (by omega) p0
    · exact bit 0 3 (by omega) p0
    · exact bit 4 0 (by omega) p1
    · exact bit 4 1 (by omega) p1
    · exact bit 4 2 (by omega) p1
    · exact bit 4 3 (by omega) p1
    · exact bit 8 0 (by omega) p2
    · exact bit 8 1 (by omega) p2
    · exact bit 8 2 (by omega) p2
    · exact bit 8 3 (by omega) p2
    · exact bit 12 0 (by omega) p3
    · exact bit 12 1 (by omega) p3
    · exact bit 12 2 (by omega) p3
    · exact bit 12 3 (by omega) p3
    · exact e0
    · exact e1
    · exact e2
    · exact e3
  · rintro ⟨⟨p0, e0⟩, ⟨p1, e1⟩, ⟨p2, e2⟩, ⟨p3, e3⟩⟩
    refine ⟨p0.zeroExtend 20 ||| (p1.zeroExtend 20 <<< 4) ||| (p2.zeroExtend 20 <<< 8) |||
      (p3.zeroExtend 20 <<< 12) ||| ((bits4 e3 e2 e1 e0).zeroExtend 20 <<< 16), ?_⟩
    simp only [heraldUnpackA, Quad.mk.injEq, Herald.mk.injEq]
    refine ⟨⟨?_, ?_⟩, ⟨?_, ?_⟩, ⟨?_, ?_⟩, ⟨?_, ?_⟩⟩ <;>
      first
        | (ext k hk; interval_cases k <;> simp)
        | simp

/-- The steps in turn: a longer description is the parts one after the other. -/
theorem layoutWord_append (l m : List LayoutStep) (w : BitVec 20) :
    layoutWord (l ++ m) w = layoutWord m (layoutWord l w) := by
  induction l generalizing w with
  | nil => rfl
  | cons st l ih => exact ih (layoutStep st w)

theorem noTimes_get (i : Fin 5) : noTimes.get i = 0 := by
  fin_cases i <;> rfl

/-! ## The input of a tick -/

@[simp] theorem State.silenced_inputNow (s : State) :
    s.silenced.inputNow = { s.inputNow with rst := false, op := 0 } := rfl

@[simp] theorem State.driveSync_inputNow (s : State) (v : Bool) :
    (s.driveSync v).inputNow = { s.inputNow with syncI := v } := rfl

theorem busOperation_none (a : Addr) (w : Word) (op : BitVec 2) (h : op = 0 ∨ op = 3) :
    busOperation op a w = none := by
  rcases h with rfl | rfl <;> rfl

@[simp] theorem State.silenced_operation (s : State) : s.silenced.inputNow.operation = none := rfl

/-! ## The sequencer writes neither bank, T_a, the parameters, nor anything part A writes -/

/-- What part C of a tick never writes. -/
theorem State.sequence_keeps (s : State) :
    s.sequence.params = s.params ∧ s.sequence.persisted = s.persisted ∧ s.sequence.active = s.active ∧
    s.sequence.maxRunTime = s.maxRunTime ∧ s.sequence.inPrev = s.inPrev ∧ s.sequence.syncV = s.syncV ∧
    s.sequence.syncCnt = s.syncCnt ∧ s.sequence.rdata = s.rdata ∧ s.sequence.script = s.script ∧
    s.sequence.freeCount = s.freeCount := by
  unfold State.sequence State.stepArmed State.stepRunning State.continueRun
  cases s.phase
  · simp
  · dsimp only
    split
    · simp
    · split <;> simp
  · dsimp only
    split
    · simp
    · split
      · simp
      · split
        · simp
        · split <;> simp

@[simp] theorem State.sequence_params (s : State) : s.sequence.params = s.params := s.sequence_keeps.1
@[simp] theorem State.sequence_persisted (s : State) : s.sequence.persisted = s.persisted := s.sequence_keeps.2.1
@[simp] theorem State.sequence_active (s : State) : s.sequence.active = s.active := s.sequence_keeps.2.2.1
@[simp] theorem State.sequence_maxRunTime (s : State) : s.sequence.maxRunTime = s.maxRunTime :=
  s.sequence_keeps.2.2.2.1

theorem State.sequence_idle (s : State) (h : s.phase = .idle) : s.sequence = s := by
  simp only [State.sequence, h]

theorem State.sequence_armed (s : State) (h : s.phase = .armed) : s.sequence = s.stepArmed := by
  simp only [State.sequence, h]

theorem State.sequence_running (s : State) (h : s.phase = .running) : s.sequence = s.stepRunning := by
  simp only [State.sequence, h]

/-- Everything RUNNING can do in a tick without a Run write: one of three exits, or going on. -/
theorem State.stepRunning_cases (s : State) :
    (∃ idx, s.heraldExit = some idx ∧ s.stepRunning = s.exit .heralded idx s.tsE s.nCyclesNext) ∨
    (s.heraldExit = none ∧ s.timeUp = true ∧ s.stepRunning = s.exit .timeout 0 s.tsE s.nCyclesNext) ∨
    (s.heraldExit = none ∧ s.timeUp = false ∧ s.partnerAbsent = true ∧
      s.stepRunning = s.exit .timeout 0 s.tsE s.nCyclesNext) ∨
    (s.heraldExit = none ∧ s.timeUp = false ∧ s.partnerAbsent = false ∧ s.stepRunning = s.continueRun) := by
  unfold State.stepRunning
  cases hh : s.heraldExit <;> cases ht : s.timeUp <;> cases ha : s.partnerAbsent <;> simp

/-- Everything ARMED can do in a tick without a Run write: start, time out, or wait. -/
theorem State.stepArmed_cases (s : State) :
    (s.starts = true ∧ s.stepArmed = { s with phase := .running, elapsed := 0, cycleTime := 0 }) ∨
    (s.starts = false ∧ s.timeUp = true ∧ s.stepArmed = s.exit .timeout 0 s.tsWork s.nCycles) ∨
    (s.starts = false ∧ s.timeUp = false ∧ s.stepArmed = { s with elapsed := s.elapsed + 1 }) := by
  unfold State.stepArmed
  cases hs : s.starts <;> cases ht : s.timeUp <;> simp

/-- Everything a Run write can do: refuse, run zero ticks, start at once, or wait for the partner. -/
theorem State.runWrite_cases (s : State) (t : Word) :
    ((s.persisted.enable = false ∨ s.persisted.cycleLength = 0) ∧
      s.runWrite t = { s.snapshot t with phase := .idle, exitCause := .refused }) ∨
    ((s.persisted.enable = true ∧ s.persisted.cycleLength ≠ 0) ∧ t = 0 ∧
      s.runWrite t = { s.snapshot t with phase := .idle, exitCause := .timeout, tsLatched := noTimes }) ∨
    ((s.persisted.enable = true ∧ s.persisted.cycleLength ≠ 0) ∧ t ≠ 0 ∧ s.persisted.standalone = true ∧
      s.runWrite t = { s.snapshot t with phase := .running }) ∨
    ((s.persisted.enable = true ∧ s.persisted.cycleLength ≠ 0) ∧ t ≠ 0 ∧ s.persisted.standalone = false ∧
      s.runWrite t = { s.snapshot t with phase := .armed }) := by
  unfold State.runWrite
  by_cases h1 : s.persisted.enable = false ∨ s.persisted.cycleLength = 0
  · exact .inl ⟨h1, if_pos h1⟩
  · have h2 : s.persisted.enable = true ∧ s.persisted.cycleLength ≠ 0 := by
      simpa [not_or] using h1
    rw [if_neg h1]
    by_cases h3 : t = 0
    · exact .inr (.inl ⟨h2, h3, if_pos h3⟩)
    · rw [if_neg h3]
      cases h4 : s.persisted.standalone
      · exact .inr (.inr (.inr ⟨h2, h3, rfl, by simp⟩))
      · exact .inr (.inr (.inl ⟨h2, h3, rfl, by simp⟩))

/-! ## Ticks -/

theorem State.tickWith_eq (s : State) (r : Word) : s.tickWith r = s.endTick s.sequence r := rfl

/-- A tick without a write leaves the persisted bank. -/
theorem State.tickWith_persisted (s : State) (r : Word) :
    s.tickWith r = { s.tickWith r with persisted := s.persisted } := by
  have h := s.sequence_persisted
  simp only [State.tickWith, State.endTick, ← h]

/-- The tick with nothing on the bus. -/
theorem step_silenced (s : State) : step s.silenced = .next (s.tickWith 0) := by
  refine congrArg Host.Outcome.next (?_ : s.silenced.tickWith 0 = s.tickWith 0)
  have starts : s.silenced.starts = s.starts := rfl
  have timeUp : s.silenced.timeUp = s.timeUp := rfl
  have absent : s.silenced.partnerAbsent = s.partnerAbsent := rfl
  have wraps : s.silenced.wraps = s.wraps := rfl
  have herald : s.silenced.heraldExit = s.heraldExit := rfl
  cases hp : s.phase with
  | idle => rw [s.tickWith_eq, s.silenced.tickWith_eq, s.sequence_idle hp, s.silenced.sequence_idle hp]; rfl
  | armed =>
    rw [s.tickWith_eq, s.silenced.tickWith_eq, s.sequence_armed hp, s.silenced.sequence_armed hp]
    unfold State.stepArmed
    rw [starts, timeUp]
    cases s.starts <;> cases s.timeUp <;> rfl
  | running =>
    rw [s.tickWith_eq, s.silenced.tickWith_eq, s.sequence_running hp, s.silenced.sequence_running hp]
    unfold State.stepRunning State.continueRun
    rw [herald, timeUp, absent, wraps]
    cases s.heraldExit <;> cases s.timeUp <;> cases s.partnerAbsent <;> cases s.wraps <;> rfl

/-- Everything an instruction can do: the Run write's tick, or the tick with nothing on the bus with another persisted
bank and another word on bus_rdata. -/
theorem exec_cases (i : Instr) (s t : State) (h : exec i s = .next t) :
    (∃ T, i = .wrRun T ∧ t = s.runTick T) ∨
    ((∀ T, i ≠ .wrRun T) ∧ ∃ b r, t = { s.tickWith r with persisted := b }) := by
  cases i
  case wrRun T => exact .inl ⟨T, rfl, (Host.Outcome.next.inj h).symm⟩
  all_goals
    refine .inr ⟨fun _ h => Instr.noConfusion h, ?_⟩
    first
      | exact ⟨_, 0, (Host.Outcome.next.inj h).symm⟩
      | exact ⟨s.persisted, _, (Host.Outcome.next.inj h).symm.trans (s.tickWith_persisted _)⟩

/-- Everything a step can do: the reset edge, the Run write's tick, or a tick without one. -/
theorem step_cases (s t : State) (h : step s = .next t) :
    (s.inputNow.rst = true ∧ t = s.resetEdge) ∨
    (∃ T, s.Presents (.wrRun T) ∧ t = s.runTick T) ∨
    (s.inputNow.NoRun ∧ ∃ b r, t = { s.tickWith r with persisted := b }) := by
  unfold step at h
  by_cases hr : s.inputNow.rst = true
  · rw [if_pos hr] at h
    exact .inl ⟨hr, (Host.Outcome.next.inj h).symm⟩
  · have hr' : s.inputNow.rst = false := by simpa using hr
    rw [if_neg hr] at h
    right
    cases ho : s.inputNow.operation with
    | none =>
      rw [ho] at h
      exact .inr ⟨⟨hr', fun T hT => by simp [ho] at hT⟩, s.persisted, 0,
        (Host.Outcome.next.inj h).symm.trans (s.tickWith_persisted 0)⟩
    | some i =>
      rw [ho] at h
      rcases exec_cases i s t h with ⟨T, rfl, ht⟩ | ⟨hn, b, r, ht⟩
      · exact .inl ⟨T, ⟨hr', ho⟩, ht⟩
      · exact .inr ⟨⟨hr', fun T hT => hn T (Option.some.inj (ho.symm.trans hT))⟩, b, r, ht⟩

end Sys2Proof.Machine
end

