-- ==== Sys2Proof/Laws/PerInstr.lean ====
section
/-! SUPPORT. What holds of every instruction as syntax: its operation word carries the direction and the address its
row of spec/30_encoding.md R93 has, and a read's word carries no data (R80). -/

namespace Sys2Proof.Laws.OpWord

/-- The direction of the row: true for a write (R80, R93). -/
def isWrite : Instr → Bool
  | .wrConfig _ _ _ => true
  | .wrRun _ => true
  | .wrCycleLength _ => true
  | .wrHeralds _ => true
  | .wrTimingOut0 _ _ => true
  | .wrTimingOut1 _ _ => true
  | .wrTimingOut2 _ _ => true
  | .wrTimingIn0 _ _ => true
  | .wrTimingIn1 _ _ => true
  | .wrTimingIn2 _ _ => true
  | .wrTimingIn3 _ _ => true
  | .wrAddr0F _ _ => true
  | .wrIgnored _ => true
  | .rdStatus => false
  | .rdNcycles => false
  | .rdTimestamp0 => false
  | .rdTimestamp1 => false
  | .rdTimestamp2 => false
  | .rdTimestamp3 => false
  | .rdTimestamp4 => false
  | .rdZero _ => false

/-- The address of the row (R93). -/
def address : Instr → Addr
  | .wrConfig _ _ _ => 0x00
  | .wrRun _ => 0x01
  | .wrCycleLength _ => 0x02
  | .wrHeralds _ => 0x03
  | .wrTimingOut0 _ _ => 0x08
  | .wrTimingOut1 _ _ => 0x09
  | .wrTimingOut2 _ _ => 0x0A
  | .wrTimingIn0 _ _ => 0x0B
  | .wrTimingIn1 _ _ => 0x0C
  | .wrTimingIn2 _ _ => 0x0D
  | .wrTimingIn3 _ _ => 0x0E
  | .wrAddr0F _ _ => 0x0F
  | .wrIgnored a => a
  | .rdStatus => 0x10
  | .rdNcycles => 0x11
  | .rdTimestamp0 => 0x18
  | .rdTimestamp1 => 0x19
  | .rdTimestamp2 => 0x1A
  | .rdTimestamp3 => 0x1B
  | .rdTimestamp4 => 0x1C
  | .rdZero a => a

/-- The operation word of i: direction, address, and no data for a read. -/
def Statement (i : Instr) : Prop :=
  opIsWrite (encode i) = isWrite i ∧ opAddr (encode i) = address i ∧ (isWrite i = false → opData (encode i) = 0)

/-- A write's word. -/
theorem of_write (i : Instr) (w : Word) (h : encode i = encodeWrite (address i) w) (hw : isWrite i = true) :
    Statement i := by
  simp [Statement, h, hw]

/-- A read's word. -/
theorem of_read (i : Instr) (h : encode i = encodeRead (address i)) (hr : isWrite i = false) : Statement i := by
  simp [Statement, h, hr]

theorem wrConfig (enable isMaster standalone : Bool) : Statement (.wrConfig enable isMaster standalone) := of_write _ _ rfl rfl

theorem wrRun (t : Word) : Statement (.wrRun t) := of_write _ _ rfl rfl

theorem wrCycleLength (l : Time) : Statement (.wrCycleLength l) := of_write _ _ rfl rfl

theorem wrHeralds (p : BitVec 20) : Statement (.wrHeralds p) := of_write _ _ rfl rfl

theorem wrTimingOut0 (b e : Time) : Statement (.wrTimingOut0 b e) := of_write _ _ rfl rfl

theorem wrTimingOut1 (b e : Time) : Statement (.wrTimingOut1 b e) := of_write _ _ rfl rfl

theorem wrTimingOut2 (b e : Time) : Statement (.wrTimingOut2 b e) := of_write _ _ rfl rfl

theorem wrTimingIn0 (b e : Time) : Statement (.wrTimingIn0 b e) := of_write _ _ rfl rfl

theorem wrTimingIn1 (b e : Time) : Statement (.wrTimingIn1 b e) := of_write _ _ rfl rfl

theorem wrTimingIn2 (b e : Time) : Statement (.wrTimingIn2 b e) := of_write _ _ rfl rfl

theorem wrTimingIn3 (b e : Time) : Statement (.wrTimingIn3 b e) := of_write _ _ rfl rfl

theorem wrAddr0F (b e : Time) : Statement (.wrAddr0F b e) := of_write _ _ rfl rfl

theorem wrIgnored (a : Addr) : Statement (.wrIgnored a) := of_write _ _ rfl rfl

theorem rdStatus : Statement (.rdStatus) := of_read _ rfl rfl

theorem rdNcycles : Statement (.rdNcycles) := of_read _ rfl rfl

theorem rdTimestamp0 : Statement (.rdTimestamp0) := of_read _ rfl rfl

theorem rdTimestamp1 : Statement (.rdTimestamp1) := of_read _ rfl rfl

theorem rdTimestamp2 : Statement (.rdTimestamp2) := of_read _ rfl rfl

theorem rdTimestamp3 : Statement (.rdTimestamp3) := of_read _ rfl rfl

theorem rdTimestamp4 : Statement (.rdTimestamp4) := of_read _ rfl rfl

theorem rdZero (a : Addr) : Statement (.rdZero a) := of_read _ rfl rfl

end Sys2Proof.Laws.OpWord
end

