-- ==== Sys2Proof/Laws/Runs.lean ====
section
/-! SUPPORT. Runs of many ticks: one more tick at the end of a run, what every tick does to the script and to the
filter, and the same for the pair. -/

namespace Sys2Proof.Machine

/-- A run's first tick. -/
theorem run_succ (k : Nat) (s t : State) (h : step s = .next t) :
    Host.Core.run core (k + 1) s = Host.Core.run core k t := by
  have unfolded : ∀ (M : Host.Core) (n : Nat) (a b : M.State), M.step a = .next b → M.run (n + 1) a = M.run n b := by
    intro M n a b hab
    rw [Host.Core.run.eq_def]
    simp only [hab]
  exact unfolded core k s t h

/-- One more tick at the end of a run. -/
theorem run_snoc (k : Nat) (s t u : State) (h : Host.Core.run core k s = .next t) (hu : step t = .next u) :
    Host.Core.run core (k + 1) s = .next u := by
  induction k generalizing s with
  | zero =>
    obtain rfl : s = t := Host.Outcome.next.inj h
    exact run_succ 0 s u hu
  | succ k ih =>
    cases hs : step s with
    | next v =>
      rw [run_succ _ s v hs] at h ⊢
      exact ih v h
    | fault r => exact nomatch r
    | refused r =>
      have stuck : ∀ (M : Host.Core) (n : Nat) (a : M.State) (x : M.Refusal),
          M.step a = .refused x → M.run (n + 1) a = .refused x := by
        intro M n a x hax
        rw [Host.Core.run.eq_def]
        simp only [hax]
      exact nomatch (stuck core k s r hs).symm.trans h

/-- One more tick at the end of a pair's run. -/
theorem Pair.run_snoc (k : Nat) (p q r : Pair) (h : Pair.run k p = .next q) (hr : q.step = .next r) :
    Pair.run (k + 1) p = .next r := by
  induction k generalizing p with
  | zero =>
    obtain rfl : p = q := Host.Outcome.next.inj h
    unfold Pair.run
    rw [hr]
    rfl
  | succ k ih =>
    unfold Pair.run at h ⊢
    cases hs : p.step with
    | next v => rw [hs] at h; exact ih v h
    | fault r => exact nomatch r
    | refused r => rw [hs] at h; exact nomatch h

/-- The script's first input is this tick's. -/
theorem State.inputNow_of_cons (s : State) (i : TickInput) (l : List TickInput) (h : s.script = i :: l) :
    s.inputNow = i := by
  unfold State.inputNow
  rw [h]

/-- What the Run write's tick leaves of the persisted bank and the parameters. -/
theorem State.runWrite_keeps (s : State) (t : Word) :
    (s.runWrite t).persisted = s.persisted ∧ (s.runWrite t).params = s.params := by
  rcases s.runWrite_cases t with ⟨_, h⟩ | ⟨_, _, h⟩ | ⟨_, _, _, h⟩ | ⟨_, _, _, h⟩ <;> rw [h] <;> simp

/-- Every tick consumes one input and keeps the parameters. -/
theorem step_script (s t : State) (h : step s = .next t) :
    t.script = s.script.tail ∧ t.params = s.params ∧ t.freeCount = s.freeCount + 1 := by
  rcases step_cases s t h with ⟨_, rfl⟩ | ⟨T, _, rfl⟩ | ⟨_, b, r, rfl⟩
  · simp
  · simp [State.runTick, s.runWrite_keeps]
  · simp [State.tickWith]

/-- Every tick without reset steps the filter and the edge detector (R152, R235). -/
theorem step_conditioning (s t : State) (hr : s.inputNow.rst = false) (h : step s = .next t) :
    t.inPrev = s.inputNow.inp ∧ t.syncV = s.syncVNext ∧ t.syncCnt = s.syncCntNext := by
  rcases step_cases s t h with ⟨h1, _⟩ | ⟨T, _, rfl⟩ | ⟨_, b, r, rfl⟩
  · simp [hr] at h1
  · simp [State.runTick]
  · simp [State.tickWith]

end Sys2Proof.Machine
end

