-- ==== Sys2Proof/Tests/Slice0.lean ====
section
/-! SUPPORT. The model's own tests: the well-formedness smoke test, decoding of words written out from the spec's
encodings, one or two ticks per operation with results from spec/95_test_vectors.md or by hand from the rules, and a
witness of the hypotheses of every statement that has any. -/

namespace Sys2Proof.Tests

open Sys2Proof Sys2Proof.Machine

/-! ## Helpers -/

/-- The state a tick with operation i leaves. -/
def after (i : Instr) (s : State) : State :=
  match exec i s with
  | .next t => t
  | .fault _ => s
  | .refused _ => s

/-- The state one step leaves. -/
def stepped (s : State) : State :=
  match step s with
  | .next t => t
  | .fault _ => s
  | .refused _ => s

/-- A bank with cycle length 2, slot 1 enabled for pattern 0b0001, and window (1, 2) on output 0 and input gate 0. -/
def bank (isMaster standalone : Bool) : Bank :=
  { Bank.reset with
    enable := true
    isMaster := isMaster
    standalone := standalone
    cycleLength := 2
    heralds := ⟨Herald.off, { pattern := 1, enabled := true }, Herald.off, Herald.off⟩
    windows := { Bank.reset.windows with e0 := { tStart := 1, tEnd := 2 }, e3 := { tStart := 1, tEnd := 2 } } }

/-- A state in a phase, with both banks b, T_a = t and the given inputs to come. -/
def inPhase (phase : Phase) (b : Bank) (t : Word) (lines : List TickInput) : State :=
  { State.reset with persisted := b, active := b, maxRunTime := t, phase := phase, script := lines }

/-- IDLE with a standalone bank. -/
def ready : State := inPhase .idle (bank false true) 0 [lineNop]

/-- RUNNING standalone at the last tick of a cycle, in[0] rising inside its window: slot 1 matches. -/
def matching : State :=
  { inPhase .running (bank false true) 5 [lineNop.annotated 1 false, lineNop] with cycleTime := 1, elapsed := 1 }

/-- NOP lines carry no Run write. -/
theorem nop_noRun (inp : BitVec 5) (v : Bool) : (lineNop.annotated inp v).NoRun :=
  ⟨rfl, fun _ h => nomatch (show (none : Option Instr) = some _ from h)⟩

theorem lineNop_noRun : lineNop.NoRun :=
  ⟨rfl, fun _ h => nomatch (show (none : Option Instr) = some _ from h)⟩

/-! ## Well-formedness smoke test -/

theorem test_wf_refuses_a_mapped_write_address : (Instr.wrIgnored 0x03).wf = false := by decide
theorem test_wf_refuses_address_0F_as_ignored : (Instr.wrIgnored 0x0F).wf = false := by decide
theorem test_wf_refuses_a_mapped_read_address : (Instr.rdZero 0x18).wf = false := by decide
theorem test_wf_accepts_reserved : (Instr.wrIgnored 0x04).wf = true ∧ (Instr.rdZero 0x1F).wf = true := by decide

/-! ## Decoding: words from spec/95_test_vectors.md section 2.1, or written out from R80 and R82 to R87 -/

theorem test_decode_config : decode 0x2000000005#38 = .ok (.wrConfig true false true) := by decide
theorem test_decode_config_high_bits : decode 0x20FFFFFFF8#38 = .ok (.wrConfig false false false) := by decide
theorem test_decode_run : decode 0x21000003E8#38 = .ok (.wrRun 1000) := by decide
theorem test_decode_cycle_length : decode 0x22000001F4#38 = .ok (.wrCycleLength 500) := by decide
theorem test_decode_cycle_length_bit14 : decode 0x2200004000#38 = .ok (.wrCycleLength 0) := by decide
theorem test_decode_heralds : decode 0x2300030013#38 = .ok (.wrHeralds 0x30013) := by decide
theorem test_decode_heralds_high_bits : decode 0x23FFF00000#38 = .ok (.wrHeralds 0) := by decide
theorem test_decode_timing_out : decode 0x2800320064#38 = .ok (.wrTimingOut0 100 200) ∧
    decode 0x2900018003#38 = .ok (.wrTimingOut1 3 6) ∧ decode 0x2A0FFFC001#38 = .ok (.wrTimingOut2 1 16383) := by
  decide
theorem test_decode_timing_in : decode 0x2B000C800A#38 = .ok (.wrTimingIn0 10 50) ∧
    decode 0x2C000C800A#38 = .ok (.wrTimingIn1 10 50) ∧ decode 0x2D00018000#38 = .ok (.wrTimingIn2 0 6) ∧
    decode 0x2EF0000000#38 = .ok (.wrTimingIn3 0 0) := by
  decide
theorem test_decode_address_0F : decode 0x2F00024001#38 = .ok (.wrAddr0F 1 9) := by decide
theorem test_decode_ignored : decode 0x24FFFFFFFF#38 = .ok (.wrIgnored 0x04) ∧
    decode 0x3F00000001#38 = .ok (.wrIgnored 0x1F) := by
  decide
theorem test_decode_status : decode 0x1000000000#38 = .ok .rdStatus := by decide
theorem test_decode_ncycles : decode 0x1100000000#38 = .ok .rdNcycles := by decide
theorem test_decode_timestamps : decode 0x1800000000#38 = .ok .rdTimestamp0 ∧
    decode 0x1900000000#38 = .ok .rdTimestamp1 ∧ decode 0x1A00000000#38 = .ok .rdTimestamp2 ∧
    decode 0x1B00000000#38 = .ok .rdTimestamp3 ∧ decode 0x1C00000000#38 = .ok .rdTimestamp4 := by
  decide
theorem test_decode_zero : decode 0x0000000000#38 = .ok (.rdZero 0x00) ∧
    decode 0x1D00000000#38 = .ok (.rdZero 0x1D) := by
  decide
theorem test_decode_read_with_data : decode 0x1000000001#38 = .error .readDataNotZero := by decide
theorem test_decode_too_wide : decodeNat 0x4000000000 = .error .tooWide := by decide
theorem test_decode_table_word : decodeTableWord 40 0x21000003E8 = some (.wrRun 1000) := by decide
theorem test_operation_none : busOperation 0 0x01 5 = none ∧ busOperation 3 0x01 5 = none := by decide
theorem test_operation_read_ignores_data : busOperation 2 0x10 0xFFFFFFFF = some .rdStatus := by decide

/-- R94 at the ends of its ranges. -/
theorem test_reserved_boundaries :
    busOperation 1 0x03 0 ≠ some (.wrIgnored 0x03) ∧ busOperation 1 0x04 0 = some (.wrIgnored 0x04) ∧
    busOperation 1 0x07 0 = some (.wrIgnored 0x07) ∧ busOperation 1 0x08 0 ≠ some (.wrIgnored 0x08) ∧
    busOperation 1 0x0F 0 ≠ some (.wrIgnored 0x0F) ∧ busOperation 1 0x10 0 = some (.wrIgnored 0x10) ∧
    busOperation 2 0x0F 0 = some (.rdZero 0x0F) ∧ busOperation 2 0x11 0 ≠ some (.rdZero 0x11) ∧
    busOperation 2 0x12 0 = some (.rdZero 0x12) ∧ busOperation 2 0x17 0 = some (.rdZero 0x17) ∧
    busOperation 2 0x1C 0 ≠ some (.rdZero 0x1C) ∧ busOperation 2 0x1D 0 = some (.rdZero 0x1D) := by
  decide

/-! ## Operand forms: vectors E8, E11, W3, W5, W9 and the filter table 2.7 -/

theorem test_heralds_E8 : heraldUnpack .layoutA 0x30013 =
    ⟨{ pattern := 3, enabled := true }, { pattern := 1, enabled := true }, Herald.off, Herald.off⟩ := by
  decide
theorem test_heralds_E11 : (heraldUnpack .layoutA 0x10008).get 0 = { pattern := 8, enabled := true } := by decide
/-- Another layout: pattern[0] bit 0 and enable[0] have traded places. -/
theorem test_heralds_other_bits : (heraldUnpack (.other [.swapBits 0 16]) 0x00001).e0 =
    { pattern := 0, enabled := true } ∧ (heraldUnpack (.other [.swapBits 0 16]) 0x10002).e0 =
    { pattern := 3, enabled := false } := by decide
/-- Another layout: two words have traded their meanings, before which bits 0 and 1 have. -/
theorem test_heralds_other_words :
    (heraldUnpack (.other [.swapBits 0 1, .swapWords 2 0x10008]) 0x00001).e0 = { pattern := 8, enabled := true } ∧
    (heraldUnpack (.other [.swapBits 0 1, .swapWords 2 0x10008]) 0x00002).e0 = { pattern := 1, enabled := false } := by
  decide
theorem test_window_half_open : inwin { tStart := 10, tEnd := 50 } 49 = true ∧
    inwin { tStart := 10, tEnd := 50 } 50 = false ∧ inwin { tStart := 10, tEnd := 50 } 10 = true ∧
    inwin { tStart := 10, tEnd := 50 } 9 = false := by
  decide
theorem test_window_sentinel : inwin { tStart := 0, tEnd := 6 } 3 = false ∧
    inwin { tStart := 6, tEnd := 3 } 4 = false ∧ inwin { tStart := 5, tEnd := 5 } 5 = false := by
  decide
theorem test_filter_table : syncFilterStep 2 false 0 true = (false, 1) ∧ syncFilterStep 2 false 1 false = (false, 0) ∧
    syncFilterStep 2 false 1 true = (true, 0) ∧ syncFilterStep 2 true 0 false = (true, 1) ∧
    syncFilterStep 2 true 1 false = (false, 0) ∧ syncFilterStep 1 false 0 true = (true, 0) := by
  decide

/-! ## One tick per operation -/

theorem test_wrConfig : (after (.wrConfig true false true) State.reset).persisted =
    { Bank.reset with enable := true, standalone := true } := by decide
theorem test_wrConfig_defers : (after (.wrConfig false false false) matching).active.enable = true := by decide
theorem test_wrRun_refused : (after (.wrRun 5) State.reset).statusWord = 0x08 := by decide
theorem test_wrRun_starts : (after (.wrRun 1000) ready).phase = .running ∧
    (after (.wrRun 1000) ready).maxRunTime = 1000 := by decide
theorem test_wrCycleLength : (after (.wrCycleLength 16383) ready).persisted.cycleLength = 16383 := by decide
theorem test_wrHeralds : (after (.wrHeralds 0x70013) ready).persisted.heralds.e2 =
    { pattern := 0, enabled := true } := by decide
theorem test_wrTimingOut0 : (after (.wrTimingOut0 3 6) ready).persisted.outWindow 0 =
    { tStart := 3, tEnd := 6 } := by decide
theorem test_wrTimingOut1 : (after (.wrTimingOut1 3 6) ready).persisted.outWindow 1 =
    { tStart := 3, tEnd := 6 } := by decide
theorem test_wrTimingOut2 : (after (.wrTimingOut2 3 6) ready).persisted.outWindow 2 =
    { tStart := 3, tEnd := 6 } := by decide
theorem test_wrTimingIn0 : (after (.wrTimingIn0 3 6) ready).persisted.gateWindow .three 0 =
    { tStart := 3, tEnd := 6 } := by decide
theorem test_wrTimingIn1 : (after (.wrTimingIn1 3 6) ready).persisted.gateWindow .three 1 =
    { tStart := 3, tEnd := 6 } := by decide
theorem test_wrTimingIn2 : (after (.wrTimingIn2 3 6) ready).persisted.gateWindow .three 2 =
    { tStart := 3, tEnd := 6 } := by decide
theorem test_wrTimingIn3 : (after (.wrTimingIn3 3 6) ready).persisted.gateWindow .three 3 =
    { tStart := 3, tEnd := 6 } := by decide
theorem test_wrAddr0F_three : (after (.wrAddr0F 1 9) ready).persisted = ready.persisted := by decide
theorem test_wrAddr0F_four :
    (after (.wrAddr0F 1 9) { ready with params := { Params.default with nOut := .four } }).persisted.gateWindow .four 3 =
      { tStart := 1, tEnd := 9 } := by decide
theorem test_wrIgnored : (after (.wrIgnored 0x1F) ready).persisted = ready.persisted := by decide
theorem test_rdStatus : (after .rdStatus matching).rdata = 0x01 := by decide
theorem test_rdStatus_heralded :
    (after .rdStatus { ready with exitCause := .heralded, heraldIndex := 1 }).rdata = 0x16 := by decide
theorem test_rdNcycles : (after .rdNcycles { ready with nCycles := 16383 }).rdata = 16383 := by decide
theorem test_rdTimestamp0 : (after .rdTimestamp0 { ready with tsLatched := ⟨20, 30, 40, 50, 7⟩ }).rdata = 20 := by
  decide
theorem test_rdTimestamp1 : (after .rdTimestamp1 { ready with tsLatched := ⟨20, 30, 40, 50, 7⟩ }).rdata = 30 := by
  decide
theorem test_rdTimestamp2 : (after .rdTimestamp2 { ready with tsLatched := ⟨20, 30, 40, 50, 7⟩ }).rdata = 40 := by
  decide
theorem test_rdTimestamp3 : (after .rdTimestamp3 { ready with tsLatched := ⟨20, 30, 40, 50, 7⟩ }).rdata = 50 := by
  decide
theorem test_rdTimestamp4 : (after .rdTimestamp4 { ready with tsLatched := ⟨20, 30, 40, 50, 7⟩ }).rdata = 7 := by
  decide
theorem test_rdZero : (after (.rdZero 0x00) ready).rdata = 0 ∧ (after (.rdZero 0x00) ready).phase = .idle := by decide

/-! ## Single steps of the sequencer -/

/-- Vector (q): an event sampled on the wrap edge counts, and the slot it matches ends the run. -/
theorem test_herald_exit : (stepped matching).statusWord = 0x16 ∧ (stepped matching).nCycles = 1 ∧
    (stepped matching).tsLatched = ⟨1, 0, 0, 0, 0⟩ := by decide
/-- Vector (k): herald and timeout on one edge, the herald wins. -/
theorem test_herald_beats_timeout : (stepped { matching with maxRunTime := 2 }).exitCause = .heralded := by decide
/-- Vector S4: the count wraps without touching the status. -/
theorem test_ncycles_wraps :
    (stepped { matching with nCycles := 16383, script := [lineNop] }).nCycles = 0 ∧
    (stepped { matching with nCycles := 16383, script := [lineNop] }).statusWord = 0x01 := by decide
/-- Vector S8: elapsed + 1 is computed without wrap. -/
theorem test_elapsed_at_its_end :
    (stepped { matching with maxRunTime := 0xFFFFFFFF, elapsed := 0xFFFFFFFE, script := [lineNop] }).exitCause =
      .timeout := by decide
/-- The slave starts at the rise, not at the level (R238). -/
theorem test_slave_needs_a_rise :
    (stepped { inPhase .armed (bank false false) 5 [lineNop.annotated 0 true] with syncV := true }).phase = .armed ∧
    (stepped { inPhase .armed (bank false false) 5 [lineNop.annotated 0 true] with syncCnt := 1 }).phase = .running := by
  decide
/-- R230: sync_i has no effect in standalone. -/
theorem test_standalone_ignores_partner : (stepped { matching with script := [lineNop] }).phase = .running := by decide
/-- Vector Z1: the bus write of a reset tick is lost. -/
theorem test_reset_loses_the_write :
    (stepped { ready with script := [{ lineWr 0x02 9 with rst := true }] }).persisted = Bank.reset := by decide
/-- The first step after reset runs the placed word. -/
theorem test_placed_word : (stepped (State.reset.withFetchWord 40 0x22000001F4)).persisted.cycleLength = 500 := by decide

/-! ## Witnesses: for each statement with hypotheses, a state and operands that meet them -/

theorem test_wit_EncodeThenDecode : (Instr.wrIgnored 0x1F).wf = true ∧ (Instr.rdZero 0x1D).wf = true := by decide

theorem test_wit_DecodeThenEncode : decode 0x20FFFFFFFF#38 = .ok (.wrConfig true true true) ∧
    decode 0x2FFFFFFFFF#38 = .ok (.wrAddr0F 16383 16383) := by decide

theorem test_wit_RejectedWordsAreReadsWithData : (∃ e, decode 0x0080000000#38 = .error e) ∧
    (0x0080000000#38).getLsbD 37 = false ∧ (0x0080000000#38).getLsbD 31 = true := by
  exact ⟨⟨.readDataNotZero, by decide⟩, by decide, by decide⟩

theorem test_wit_StepRunsDecoded : ({ ready with script := [lineWr 0x01 7] } : State).inputNow.rst = false ∧
    busOperation ({ ready with script := [lineWr 0x01 7] } : State).inputNow.op 0x01 7 = some (.wrRun 7) := by decide

theorem test_wit_PlacedWordIsRun : decodeTableWord 38 0x1100000000 = some .rdNcycles := by decide

theorem test_wit_TickWithoutOperation : ready.inputNow.rst = false ∧ ready.inputNow.op = 0 ∧
    ({ ready with script := [{ lineNop with op := 3 }] } : State).inputNow.op = 3 := by decide

theorem test_wit_ResetEdge : ({ matching with script := [lineRst] } : State).inputNow.rst = true := by decide

/-- The three cases of the filter: no change, the sample that turns it, one sample short of that. -/
theorem test_wit_AlwaysOnConditioning :
    ready.inputNow.rst = false ∧ ready.inputNow.syncI = ready.syncV ∧
    ({ ready with script := [lineNop.annotated 0 true], syncCnt := 1 } : State).inputNow.syncI ≠ ready.syncV ∧
    ready.params.syncFilter ≤ 1 + 1 ∧ 0 + 1 < ready.params.syncFilter := by decide

theorem test_wit_WriteHeralds : State.reset.params.heraldLayout = .layoutA := rfl

/-- Two instances of a pair with two layouts other than A, which read one word differently. -/
theorem test_layouts_of_a_pair_differ :
    (after (.wrHeralds 0x10001) { ready with params :=
      { Params.default with heraldLayout := .other [.swapBits 0 1] } }).persisted.heralds.e0 =
        { pattern := 2, enabled := true } ∧
    (after (.wrHeralds 0x10001) { ready with params :=
      { Params.default with heraldLayout := .other [.swapBits 0 2] } }).persisted.heralds.e0 =
        { pattern := 4, enabled := true } := by decide

theorem test_wit_EveryHeraldLayoutIsAValue :
    Function.Bijective (fun w => heraldUnpackA (swapWords 1 2 (swapBits 3 17 w))) :=
  heraldUnpackA_bijective.comp ((layoutStep_bijective (.swapWords 1 2)).comp (layoutStep_bijective (.swapBits 3 17)))

theorem test_wit_WriteAddress0F : State.reset.params.nOut = .three ∧
    ({ ready with params := { Params.default with nOut := .four } } : State).params.nOut = .four := ⟨rfl, rfl⟩

/-- The ends of the window indices: the last output, the first and the last input gate, for either N_OUT. -/
theorem test_wit_TimingAddressesByNOut :
    (6 : Fin 8).val < nOutNat .three + 4 ∧ ¬ (7 : Fin 8).val < nOutNat .three + 4 ∧
    (7 : Fin 8).val < nOutNat .four + 4 ∧ (2 : Fin 4).val < nOutNat .three ∧ (3 : Fin 4).val < nOutNat .four ∧
    nOutNat .three + (0 : Fin 4).val = (3 : Fin 8).val ∧ nOutNat .four + (3 : Fin 4).val = (7 : Fin 8).val := by decide

/-- Addresses without a register at the ends of their ranges; 0x0F is one for N_OUT = 3 only. -/
theorem test_wit_WriteIgnored : ¬ (0x04 : Addr).toNat ≤ 3 ∧ ¬ 8 ≤ (0x07 : Addr).toNat ∧
    ¬ (0x0F : Addr).toNat ≤ 8 + nOutNat .three + 3 ∧ (0x0F : Addr).toNat ≤ 8 + nOutNat .four + 3 ∧
    ¬ (0x10 : Addr).toNat ≤ 8 + nOutNat .four + 3 := by decide

theorem test_wit_ReadZero : (0x17 : Addr) ≠ 0x10 ∧ (0x17 : Addr) ≠ 0x11 ∧ ¬ 0x18 ≤ (0x17 : Addr).toNat ∧
    ¬ (0x1D : Addr).toNat ≤ 0x1C := by decide

/-- The four cases of the Run write. -/
theorem test_wit_RunWrite :
    State.reset.persisted.enable = false ∧
    ((bank false true).enable = true ∧ (bank false true).cycleLength ≠ 0 ∧ (bank false true).standalone = true) ∧
    ((bank true false).enable = true ∧ (bank true false).cycleLength ≠ 0 ∧ (bank true false).standalone = false) ∧
    (1 : Word) ≠ 0 := by decide

theorem test_wit_reset_inv : State.reset.Inv := by constructor <;> decide

theorem test_wit_reset_times : State.reset.TimesInv := by constructor <;> decide

theorem test_wit_NoRun : matching.inputNow.NoRun ∧ ready.inputNow.NoRun :=
  ⟨nop_noRun 1 false, lineNop_noRun⟩

theorem test_wit_OnlyWritesChangePersisted : ready.inputNow.rst = false ∧ ready.inputNow.op ≠ 1 ∧
    ({ ready with script := [lineWr 0x01 7] } : State).inputNow.addr = 0x01 := by decide

theorem test_wit_IdleDoesNothing : ready.inputNow.NoRun ∧ ready.phase = .idle := ⟨lineNop_noRun, rfl⟩

/-- ARMED with the partner line high and the filter about to turn. -/
def armedRise (isMaster : Bool) : State :=
  { inPhase .armed (bank isMaster false) 5 [lineNop.annotated 0 true] with syncCnt := 1 }

/-- ARMED with the partner line low, one tick before T_a. -/
def armedLast : State := { inPhase .armed (bank false false) 5 [lineNop] with elapsed := 4 }

theorem test_wit_ArmedStarts :
    ((armedRise true).inputNow.NoRun ∧ (armedRise true).phase = .armed ∧ (armedRise true).syncVNext = true ∧
      (armedRise true).active.isMaster = true) ∧
    ((armedRise false).inputNow.NoRun ∧ (armedRise false).phase = .armed ∧ (armedRise false).syncVNext = true ∧
      (armedRise false).syncV = false) :=
  ⟨⟨nop_noRun 0 true, rfl, by decide, rfl⟩, ⟨nop_noRun 0 true, rfl, by decide, rfl⟩⟩

theorem test_wit_ArmedTimesOut : armedLast.inputNow.NoRun ∧ armedLast.phase = .armed ∧ armedLast.syncVNext = false ∧
    armedLast.maxRunTime.toNat ≤ armedLast.elapsed.toNat + 1 ∧ armedLast.Inv :=
  ⟨lineNop_noRun, rfl, by decide, by decide, by constructor <;> decide⟩

/-- A slave whose validated level is already high has no start condition. -/
theorem test_wit_ArmedTimesOut_high_slave : ({ armedLast with syncV := true } : State).active.isMaster = false ∧
    ({ armedLast with syncV := true } : State).syncVNext = true := by decide

/-- ARMED two ticks before T_a. -/
def armedEarly : State := { armedLast with elapsed := 3 }

theorem test_wit_ArmedWaits : armedEarly.inputNow.NoRun ∧ armedEarly.phase = .armed ∧ armedEarly.syncVNext = false ∧
    armedEarly.elapsed.toNat + 1 < armedEarly.maxRunTime.toNat :=
  ⟨lineNop_noRun, rfl, by decide, by decide⟩

theorem test_wit_RunningHeralded : matching.inputNow.NoRun ∧ matching.phase = .running ∧
    matching.cycleTime = matching.active.cycleLength - 1 ∧ matching.matchIndex = some 1 ∧ matching.Inv ∧
    matching.TimesInv :=
  ⟨nop_noRun 1 false, rfl, by decide, by decide, by constructor <;> decide, by constructor <;> decide⟩

/-- RUNNING in a paired role (as master), the partner's level validated high; in the tick the line is low for the
first time. -/
def paired (cycleTime : Time) (elapsed : Word) : State :=
  { inPhase .running (bank true false) 5 [lineNop] with cycleTime := cycleTime, elapsed := elapsed, syncV := true }

/-- Both forms of 'no herald exit', at the first edge the time is up. -/
theorem test_wit_RunningTimesOut : (paired 0 4).inputNow.NoRun ∧ (paired 0 4).phase = .running ∧
    (paired 0 4).cycleTime ≠ (paired 0 4).active.cycleLength - 1 ∧
    (paired 1 4).cycleTime = (paired 1 4).active.cycleLength - 1 ∧ (paired 1 4).matchIndex = none ∧
    (paired 0 4).maxRunTime.toNat ≤ (paired 0 4).elapsed.toNat + 1 :=
  ⟨lineNop_noRun, rfl, by decide, by decide, by decide, by decide⟩

/-- RUNNING in a paired role, the partner line at its second low sample. -/
def losing (cycleTime : Time) : State := { paired cycleTime 3 with syncCnt := 1 }

/-- At a wrap edge without a match, and at another edge. -/
theorem test_wit_RunningLosesPartner : (losing 1).inputNow.NoRun ∧ (losing 1).phase = .running ∧
    (losing 1).matchIndex = none ∧ (losing 0).cycleTime ≠ (losing 0).active.cycleLength - 1 ∧
    (losing 1).elapsed.toNat + 1 < (losing 1).maxRunTime.toNat ∧ (losing 1).active.standalone = false ∧
    (losing 1).syncVNext = false ∧ (losing 0).syncVNext = false :=
  ⟨lineNop_noRun, rfl, by decide, by decide, by decide, rfl, by decide, by decide⟩

/-- The partner line dropped for one sample only, at a wrap edge and at another. -/
theorem test_wit_RunningGoesOn : (paired 1 3).inputNow.NoRun ∧ (paired 1 3).phase = .running ∧
    (paired 1 3).syncVNext = true ∧ matching.active.standalone = true ∧
    (paired 1 3).matchIndex = none ∧ (paired 1 3).cycleTime = (paired 1 3).active.cycleLength - 1 ∧
    (paired 0 3).cycleTime ≠ (paired 0 3).active.cycleLength - 1 ∧
    (paired 1 3).elapsed.toNat + 1 < (paired 1 3).maxRunTime.toNat :=
  ⟨lineNop_noRun, rfl, by decide, rfl, by decide, by decide, by decide, by decide⟩

theorem test_wit_OutputsInactive : armedLast.phase ≠ .running ∧ ready.phase = .idle := by decide

/-- The two ways ts_latched changes. -/
theorem test_wit_LatchedTimesChangeOnlyAtExit :
    (matching.inputNow.rst = false ∧ step matching = .next (stepped matching) ∧
      (stepped matching).tsLatched ≠ matching.tsLatched) ∧
    (stepped { ready with script := [lineWr 0x01 0], tsLatched := ⟨1, 2, 3, 4, 5⟩ }).tsLatched ≠ ⟨1, 2, 3, 4, 5⟩ :=
  ⟨⟨by decide, rfl, by decide⟩, by decide⟩

theorem test_wit_WindowCutAtWrap : (9 : Time).toNat < 10 ∧ (1 : Time) ≠ 0 ∧ 10 ≤ (10 : Time).toNat := by decide

/-- sync_o by role: standalone, master, slave. -/
theorem test_wit_SyncOutput : (bank false true).standalone = true ∧
    ((bank true false).standalone = false ∧ (bank true false).isMaster = true) ∧
    ((bank false false).standalone = false ∧ (bank false false).isMaster = false) ∧
    (paired 0 0).syncO = true ∧ armedLast.syncO = true ∧ matching.syncO = false ∧
    (inPhase .armed (bank true false) 5 []).syncO = false := by decide

theorem test_wit_StandaloneIgnoresPartner : matching.active.standalone = true ∧ matching.phase ≠ .armed := by decide

theorem test_wit_OutputLines : matching.outLine 0 = true ∧ matching.outLine 1 = false ∧
    matching.output.out = 0b0001 := by decide

theorem test_wit_Sampler : (matching.inputNow.inp.getLsbD 0 && !matching.inPrev.getLsbD 0 && !matching.sig.getLsbD 0 &&
      inwin (matching.active.gateWindow matching.params.nOut 0) matching.cycleTime) = true ∧
    ({ matching with script := [lineNop.annotated 0x10 false] } : State).hitRef = true := by decide

/-- RUNNING at the last tick of a cycle without an event, slot 2 enabled for the zero pattern. -/
def silent : State :=
  { matching with
    active := { bank false true with heralds := ⟨Herald.off, Herald.off, { pattern := 0, enabled := true }, Herald.off⟩ }
    script := [lineNop] }

theorem test_wit_ZeroPatternEndsSilentCycle : silent.inputNow.NoRun ∧ silent.phase = .running ∧
    silent.cycleTime = silent.active.cycleLength - 1 ∧ silent.sigE = 0 ∧
    silent.active.heralds.get 2 = { pattern := 0, enabled := true } :=
  ⟨lineNop_noRun, rfl, by decide, by decide, by decide⟩

theorem test_wit_StepKeepsInvariants : matching.Inv ∧ matching.TimesInv ∧ step matching = .next (stepped matching) :=
  ⟨test_wit_RunningHeralded.2.2.2.2.1, test_wit_RunningHeralded.2.2.2.2.2, rfl⟩

/-- One sample short of the turn, and the turn. -/
theorem test_wit_FilterTurnsAfterSyncFilter :
    (fun s : State => s.syncCnt = 0 ∧ s.params.syncFilter = 2 ∧ 2 ≤ s.script.length ∧
      ∀ i ∈ s.script.take 2, i.rst = false ∧ i.syncI = !s.syncV)
      { ready with script := [lineNop.annotated 0 true, lineNop.annotated 0 true] } := by decide

/-- A standalone run of two ticks about to start, no herald enabled. -/
def soloStart : State :=
  { ready with
    persisted := { bank false true with heralds := Bank.reset.heralds }
    script := [lineWr 0x01 2, lineNop, lineNop] }

theorem test_wit_StandaloneRun : soloStart.Presents (.wrRun 2) ∧ (2 : Word) ≠ 0 ∧ soloStart.persisted.enable = true ∧
    soloStart.persisted.standalone = true ∧ soloStart.persisted.cycleLength.toNat = 2 ∧
    (∀ k, (soloStart.persisted.heralds.get k).enabled = false) ∧ (2 : Word).toNat + 1 ≤ soloStart.script.length ∧
    ∀ i ∈ soloStart.script.tail.take (2 : Word).toNat, i.NoRun :=
  ⟨⟨rfl, rfl⟩, by decide, rfl, rfl, by decide, by decide, by decide, fun i h => by
    obtain rfl : i = lineNop := by simpa [soloStart] using h
    exact lineNop_noRun⟩

/-- A slave's run of two ticks about to start, nobody on the trigger line. -/
def loneStart : State := { soloStart with persisted := bank false false }

theorem test_wit_SlaveWithoutMaster : loneStart.Presents (.wrRun 2) ∧ (2 : Word) ≠ 0 ∧
    loneStart.persisted.enable = true ∧ loneStart.persisted.standalone = false ∧
    loneStart.persisted.isMaster = false ∧ loneStart.persisted.cycleLength ≠ 0 ∧ loneStart.syncV = false ∧
    (2 : Word).toNat + 1 ≤ loneStart.script.length ∧
    (∀ i ∈ loneStart.script.take ((2 : Word).toNat + 1), i.syncI = false) ∧
    ∀ i ∈ loneStart.script.tail.take (2 : Word).toNat, i.NoRun :=
  ⟨⟨rfl, rfl⟩, by decide, rfl, rfl, rfl, by decide, rfl, by decide, by decide, test_wit_StandaloneRun.2.2.2.2.2.2.2⟩

/-- A pair in the master's run tick 0: the master runs two ticks of a cycle of two, the slave is ARMED. -/
def duo : Pair :=
  { one := { inPhase .running (bank true false) 2 [lineNop, lineNop, lineNop, lineNop] with syncV := true }
    two := inPhase .armed { bank false false with heralds := Bank.reset.heralds } 9 [lineNop, lineNop, lineNop, lineNop] }

/-- A property of the pair k ticks on. -/
def pairHas (k : Nat) (p : Pair) (f : Pair → Bool) : Bool :=
  match Pair.run k p with
  | .next q => f q
  | .fault _ => false
  | .refused _ => false

theorem pairHas_run (k : Nat) (p q : Pair) (f : Pair → Bool) (h : pairHas k p f = true)
    (hq : Pair.run k p = .next q) : f q = true := by
  unfold pairHas at h
  rw [hq] at h
  exact h

theorem duo_quiet (s : State) (h : s.script = [lineNop, lineNop, lineNop, lineNop]) : s.QuietFor 4 := by
  refine ⟨by simp [h], fun i hi => ?_⟩
  obtain rfl : i = lineNop := by simpa [h] using hi
  exact lineNop_noRun

theorem duo_quiet_two (s : State) (h : s.script = [lineNop, lineNop, lineNop, lineNop]) : s.QuietFor 2 := by
  refine ⟨by simp [h], fun i hi => ?_⟩
  obtain rfl : i = lineNop := by simpa [h] using hi
  exact lineNop_noRun

theorem test_wit_PairLockStepOffset : duo.two.params.syncFilter = 2 ∧ duo.two.phase = .armed ∧
    duo.two.active.isMaster = false ∧ duo.two.syncV = false ∧ duo.two.syncCnt = 0 ∧
    duo.two.elapsed.toNat + 2 ≤ duo.two.maxRunTime.toNat ∧ duo.two.QuietFor 2 ∧
    ∀ k q, k < 2 → Pair.run k duo = .next q → q.one.output.syncO = true := by
  refine ⟨rfl, rfl, rfl, rfl, rfl, by decide, duo_quiet_two _ rfl, fun k q hk hq => ?_⟩
  have all : ∀ k, k < 2 → pairHas k duo (fun q => q.one.output.syncO) = true := by decide
  exact pairHas_run k duo q _ (all k hk) hq

theorem test_wit_PairCountsAgree : duo.one.Inv ∧ duo.two.Inv ∧ duo.one.QuietFor 4 ∧ duo.two.QuietFor 4 ∧
    duo.one.phase = .running ∧ duo.one.active.isMaster = true ∧ duo.one.active.standalone = false ∧
    duo.one.elapsed = 0 ∧ duo.one.cycleTime = 0 ∧ duo.one.nCycles = 0 ∧
    duo.two.active.cycleLength = duo.one.active.cycleLength ∧
    (∀ k, (duo.two.active.heralds.get k).enabled = false) ∧ 2 ≤ duo.two.maxRunTime.toNat ∧
    (∀ k q, k < 2 → Pair.run k duo = .next q → q.one.phase = .running) ∧
    (∀ q, Pair.run 2 duo = .next q → q.one.phase = .idle) := by
  refine ⟨by constructor <;> decide, by constructor <;> decide, duo_quiet _ rfl, duo_quiet _ rfl, rfl, rfl,
    rfl, rfl, rfl, rfl, rfl, by decide, by decide, fun k q hk hq => ?_, fun q hq => ?_⟩
  · have all : ∀ k, k < 2 → pairHas k duo (fun q => decide (q.one.phase = .running)) = true := by decide
    exact of_decide_eq_true (pairHas_run k duo q _ (all k hk) hq)
  · exact of_decide_eq_true (pairHas_run 2 duo q (fun q => decide (q.one.phase = .idle)) (by decide) hq)

end Sys2Proof.Tests
end

section
/-! The family 00_scope.md: the implementation parameters are fixed (R9, R48), HERALD_LAYOUT takes every value R86
allows, and the reset state meets the invariants of R49 and R158. -/

namespace Sys2Proof.Machine

/-! ## Every tick is defined -/

/-- No instruction faults or is refused. -/
theorem exec_total (i : Instr) (s : State) : ∃ t, exec i s = .next t := by
  cases i <;> exact ⟨_, rfl⟩

/-- No tick faults or is refused: the reset edge, a tick with an operation and one without (R262, R264). -/
theorem step_total (s : State) : ∃ t, step s = .next t := by
  unfold step
  split
  · exact ⟨_, rfl⟩
  · split
    · exact exec_total _ s
    · exact ⟨_, rfl⟩

/-- Settles O53: every step has a next state, and no case of a step writes the parameters. -/
theorem parametersAreFixed : Obligations.ParametersAreFixed := fun s => by
  obtain ⟨t, ht⟩ := step_total s
  obtain ⟨-, hparams, -⟩ := step_script s t ht
  exact ⟨t, ht, hparams⟩

/-! ## HERALD_LAYOUT: the layouts' descriptions reach every permutation of the words -/

/-- A description that begins with an exchange of two words does the exchange first. -/
theorem layoutWord_swapWords_cons (a b : BitVec 20) (steps : List LayoutStep) (σ : Equiv.Perm (BitVec 20))
    (h : layoutWord steps = σ) : layoutWord (.swapWords a b :: steps) = ⇑(σ * Equiv.swap a b) := by
  funext w
  calc layoutWord (.swapWords a b :: steps) w
      = layoutWord steps (swapWords a b w) := rfl
    _ = σ (Equiv.swap a b w) := by rw [h, swapWords_eq]

/-- Transpositions generate the permutations of the 2^20 words, and each transposition is a step. -/
theorem exists_layoutWord_eq_perm (σ : Equiv.Perm (BitVec 20)) : ∃ steps, layoutWord steps = σ := by
  induction σ using Equiv.Perm.swap_induction_on' with
  | one => exact ⟨[], rfl⟩
  | mul_swap σ a b _ ih =>
    obtain ⟨steps, h⟩ := ih
    exact ⟨.swapWords a b :: steps, layoutWord_swapWords_cons a b steps σ h⟩

/-- Layout A as an equivalence of the 20-bit words with the eight fields (R85). -/
noncomputable def layoutAEquiv : BitVec 20 ≃ Quad Herald :=
  Equiv.ofBijective heraldUnpackA heraldUnpackA_bijective

/-- Under a description that does the permutation σ, a word is unpacked as layout A unpacks its image (R86). -/
theorem heraldUnpack_other_of_perm (steps : List LayoutStep) (σ : Equiv.Perm (BitVec 20))
    (h : layoutWord steps = σ) (w : BitVec 20) : heraldUnpack (.other steps) w = layoutAEquiv (σ w) :=
  congrArg heraldUnpackA (congrFun h w)

/-- Settles O60: a bijection f is layout A after the permutation that takes w to the word layout A unpacks to f w. -/
theorem everyHeraldLayoutIsAValue : Obligations.EveryHeraldLayoutIsAValue := fun f hf => by
  obtain ⟨steps, hsteps⟩ := exists_layoutWord_eq_perm ((Equiv.ofBijective f hf).trans layoutAEquiv.symm)
  refine ⟨.other steps, funext fun w => ?_⟩
  calc heraldUnpack (.other steps) w
      = layoutAEquiv (layoutAEquiv.symm (f w)) := heraldUnpack_other_of_perm steps _ hsteps w
    _ = f w := layoutAEquiv.apply_symm_apply (f w)

/-! ## The reset state -/

/-- The reset state is IDLE with no record, no cause and default parameters (R48, R49). -/
theorem State.reset_inv : State.reset.Inv where
  busyConfig busy := absurd rfl busy
  armedClean armed := nomatch armed
  runningInCycle running := nomatch running
  idleClean _ := ⟨rfl, rfl, rfl⟩
  busyNoCause busy := absurd rfl busy
  indexOnlyHeralded _ := rfl
  neverComplete complete := nomatch complete
  paramsLegal := rfl
  filterCount := by decide
  absentWindow _ := ⟨rfl, rfl⟩

/-- At reset no event is recorded and every time is 0 (R48, R158). -/
theorem State.reset_timesInv : State.reset.TimesInv where
  quietZero _ _ := noTimes_get _
  eventRange i recorded := by simp [State.reset] at recorded
  refZero _ := rfl
  refRange := by decide
  latchedRange i := by
    have zero : State.reset.tsLatched.get i = 0 := noTimes_get i
    simp [zero]

/-- Settles O50: the clauses of R49 and of R158, each read off the reset values. -/
theorem resetMeetsInvariants : Obligations.ResetMeetsInvariants := ⟨State.reset_inv, State.reset_timesInv⟩

end Sys2Proof.Machine
end

section
/-! The family 10_state.md: every step keeps the invariants of R49 and the ranges of R158, what a tick changes of the
filter, the active bank and ts_latched, and the outputs of R46 and R47. -/

namespace Sys2Proof.Machine

/-! ## The step by its input -/

theorem step_of_operation (s : State) (i : Instr) (hr : s.inputNow.rst = false)
    (h : s.inputNow.operation = some i) : step s = exec i s := by
  simp [step, hr, h]

theorem step_of_no_operation (s : State) (hr : s.inputNow.rst = false) (h : s.inputNow.operation = none) :
    step s = .next (s.tickWith 0) := by
  simp [step, hr, h]

/-! ## The counters -/

/-- While the time is not up elapsed + 1 does not wrap and stays below T_a (R187). -/
theorem State.elapsed_succ_lt_of_timeUp_false (s : State) (h : s.timeUp = false) :
    (s.elapsed + 1).toNat < s.maxRunTime.toNat := by
  have below : s.elapsed.toNat + 1 < s.maxRunTime.toNat := by simpa [State.timeUp] using h
  bv_omega

/-- Away from a wrap edge cycle_time advances inside the cycle (R183). -/
theorem State.cycleTime_succ_lt_of_wraps_false (s : State) (h : s.wraps = false)
    (hlt : s.cycleTime.toNat < s.active.cycleLength.toNat) :
    (s.cycleTime + 1).toNat < s.active.cycleLength.toNat := by
  have notLast : s.cycleTime ≠ s.active.cycleLength - 1 := by simpa [State.wraps] using h
  bv_omega

/-! ## The parts of RUNNING's step -/

theorem State.continueRun_of_wraps (s : State) (h : s.wraps = true) :
    s.continueRun = { s with
      elapsed := s.elapsed + 1
      nCycles := s.nCyclesNext
      cycleTime := 0
      sig := 0
      seen4 := false
      tsWork := noTimes } := if_pos h

/-- The state with the effective values of the sampler (R155) in place of the stored ones. -/
def State.sampled (s : State) : State := { s with sig := s.sigE, seen4 := s.seen4E, tsWork := s.tsE }

theorem State.continueRun_of_not_wraps (s : State) (h : s.wraps = false) :
    s.continueRun = { s.sampled with
      elapsed := s.elapsed + 1
      nCycles := s.nCyclesNext
      cycleTime := s.cycleTime + 1 } := if_neg (by simp [h])

/-! ## The invariants of R49, operation by operation -/

/-- An exit leaves a clean IDLE state; its cause and index are the ones it is given (R290). -/
theorem State.Inv.exit {s : State} (h : s.Inv) (c : ExitCause) (idx : BitVec 2) (ts : Quint Time) (n : Time)
    (hc : c ≠ .complete) (hidx : c ≠ .heralded → idx = 0) : (s.exit c idx ts n).Inv where
  busyConfig busy := absurd rfl busy
  armedClean armed := nomatch armed
  runningInCycle running := nomatch running
  idleClean _ := ⟨rfl, rfl, rfl⟩
  busyNoCause busy := absurd rfl busy
  indexOnlyHeralded := hidx
  neverComplete := hc
  paramsLegal := h.paramsLegal
  filterCount := h.filterCount
  absentWindow := h.absentWindow

/-- A timeout's exit has index 0. -/
theorem State.Inv.exit_timeout {s : State} (h : s.Inv) (ts : Quint Time) (n : Time) :
    (s.exit .timeout 0 ts n).Inv :=
  h.exit .timeout 0 ts n nofun fun _ => rfl

/-- ARMED starts with both counters 0, times out, or counts a tick that is not the last (R174 to R176). -/
theorem State.Inv.stepArmed {s : State} (h : s.Inv) (hp : s.phase = .armed) : s.stepArmed.Inv := by
  have busy : s.phase ≠ .idle := by simp [hp]
  obtain ⟨enabled, cycle, time, -⟩ := h.busyConfig busy
  rcases s.stepArmed_cases with ⟨-, hs⟩ | ⟨-, -, hs⟩ | ⟨-, notUp, hs⟩ <;> rw [hs]
  · exact { h with
      busyConfig := fun _ => ⟨enabled, cycle, time, time⟩
      armedClean := nofun
      runningInCycle := fun _ => cycle
      idleClean := nofun
      busyNoCause := fun _ => h.busyNoCause busy }
  · exact h.exit_timeout s.tsWork s.nCycles
  · exact { h with
      busyConfig := fun _ => ⟨enabled, cycle, time, s.elapsed_succ_lt_of_timeUp_false notUp⟩
      runningInCycle := fun running => absurd (hp.symm.trans running) nofun }

/-- A run that goes on stays below T_a and inside its cycle (R183, R187). -/
theorem State.Inv.continueRun {s : State} (h : s.Inv) (hp : s.phase = .running) (notUp : s.timeUp = false) :
    s.continueRun.Inv := by
  have busy : s.phase ≠ .idle := by simp [hp]
  obtain ⟨enabled, cycle, time, -⟩ := h.busyConfig busy
  have later := s.elapsed_succ_lt_of_timeUp_false notUp
  cases hw : s.wraps with
  | true =>
    rw [s.continueRun_of_wraps hw]
    exact { h with
      busyConfig := fun _ => ⟨enabled, cycle, time, later⟩
      armedClean := fun armed => absurd (hp.symm.trans armed) nofun
      runningInCycle := fun _ => cycle
      idleClean := fun _ => ⟨rfl, rfl, rfl⟩ }
  | false =>
    rw [s.continueRun_of_not_wraps hw]
    exact { h with
      busyConfig := fun _ => ⟨enabled, cycle, time, later⟩
      armedClean := fun armed => absurd (hp.symm.trans armed) nofun
      runningInCycle := fun _ => s.cycleTime_succ_lt_of_wraps_false hw (h.runningInCycle hp)
      idleClean := fun idle => absurd idle busy }

theorem State.Inv.stepRunning {s : State} (h : s.Inv) (hp : s.phase = .running) : s.stepRunning.Inv := by
  rcases s.stepRunning_cases with ⟨idx, -, hs⟩ | ⟨-, -, hs⟩ | ⟨-, -, -, hs⟩ | ⟨-, notUp, -, hs⟩ <;> rw [hs]
  · exact h.exit .heralded idx s.tsE s.nCyclesNext nofun fun other => absurd rfl other
  · exact h.exit_timeout s.tsE s.nCyclesNext
  · exact h.exit_timeout s.tsE s.nCyclesNext
  · exact h.continueRun hp notUp

/-- Part C of R262 keeps the invariants in every phase. -/
theorem State.Inv.sequence {s : State} (h : s.Inv) : s.sequence.Inv := by
  cases hp : s.phase with
  | idle => rwa [s.sequence_idle hp]
  | armed => rw [s.sequence_armed hp]; exact h.stepArmed hp
  | running => rw [s.sequence_running hp]; exact h.stepRunning hp

/-- R112 steps 1 to 3 leave a state that any phase fits whose configuration the new active bank and T_a give. -/
theorem State.Inv.snapshot {s : State} (h : s.Inv) (t : Word) (p : Phase)
    (hbusy : p ≠ .idle → (s.persisted.enable = true ∧ s.persisted.cycleLength ≠ 0) ∧ t ≠ 0)
    (harmed : p = .armed → s.persisted.standalone = false) : ({ s.snapshot t with phase := p } : State).Inv where
  busyConfig busy := by
    obtain ⟨⟨enabled, cycle⟩, time⟩ := hbusy busy
    have cycle' : 1 ≤ s.persisted.cycleLength.toNat := by bv_omega
    have time' : 1 ≤ t.toNat := by bv_omega
    exact ⟨enabled, cycle', time', time'⟩
  armedClean armed := ⟨harmed armed, rfl, rfl, rfl, rfl, rfl⟩
  runningInCycle (running : p = .running) := by
    obtain ⟨⟨-, cycle⟩, -⟩ := hbusy (by simp [running])
    exact (by bv_omega : 0 < s.persisted.cycleLength.toNat)
  idleClean _ := ⟨rfl, rfl, rfl⟩
  busyNoCause _ := ⟨rfl, rfl⟩
  indexOnlyHeralded _ := rfl
  neverComplete := nofun
  paramsLegal := h.paramsLegal
  filterCount := h.filterCount
  absentWindow three := ⟨(h.absentWindow three).1, (h.absentWindow three).1⟩

/-- The Run write: cases REFUSED and ZERO are exits of the snapshot, the others its first tick (R112). -/
theorem State.Inv.runWrite {s : State} (h : s.Inv) (t : Word) : (s.runWrite t).Inv := by
  have aborted := h.snapshot t .idle (absurd rfl) nofun
  rcases s.runWrite_cases t with ⟨-, hs⟩ | ⟨-, -, hs⟩ | ⟨ready, time, -, hs⟩ | ⟨ready, time, paired, hs⟩ <;> rw [hs]
  · exact aborted.exit .refused 0 s.tsLatched 0 nofun fun _ => rfl
  · exact aborted.exit_timeout noTimes 0
  · exact h.snapshot t .running (fun _ => ⟨ready, time⟩) nofun
  · exact h.snapshot t .armed (fun _ => ⟨ready, time⟩) fun _ => paired

/-- The filter's count stays below SYNC_FILTER (R192, R235). -/
theorem syncFilterStep_count_lt (n : Nat) (v : Bool) (c : Nat) (i : Bool) (h : c < n) :
    (syncFilterStep n v c i).2 < n := by
  unfold syncFilterStep
  split
  · exact Nat.zero_lt_of_lt h
  · split
    · exact Nat.zero_lt_of_lt h
    · omega

/-- The edge that ends a tick: of the invariants it can only break the filter's, which part A keeps. -/
theorem State.Inv.endTick {s n : State} (hs : s.Inv) (hn : n.Inv) (hparams : n.params = s.params) (r : Word) :
    (s.endTick n r).Inv :=
  { hn with
    filterCount := by
      simpa [hparams, State.syncCntNext] using
        syncFilterStep_count_lt s.params.syncFilter s.syncV s.syncCnt s.inputNow.syncI hs.filterCount }

/-- The state with another persisted bank. -/
def State.withPersisted (s : State) (b : Bank) : State := { s with persisted := b }

/-- Another persisted bank matters to the invariants only in the place N_OUT = 3 does not have. -/
theorem State.Inv.withPersisted {s : State} (h : s.Inv) (b : Bank)
    (hb : s.params.nOut = .three → b.windows.e7 = Window.inactive) : (s.withPersisted b).Inv :=
  { h with absentWindow := fun three => ⟨hb three, (h.absentWindow three).2⟩ }

theorem State.Inv.resetEdge {s : State} (h : s.Inv) : s.resetEdge.Inv :=
  { State.reset_inv with
    paramsLegal := h.paramsLegal
    filterCount := Nat.zero_lt_of_lt h.filterCount
    absentWindow := fun _ => ⟨rfl, rfl⟩ }

/-- With N_OUT = 3 no operation writes the eighth window place (R24, R119). -/
theorem exec_absentWindow (i : Instr) (s t : State) (h : exec i s = .next t) (three : s.params.nOut = .three) :
    t.persisted.windows.e7 = s.persisted.windows.e7 := by
  cases i with
  | wrRun T =>
    obtain rfl := Host.Outcome.next.inj h
    exact congrArg (·.windows.e7) (s.runWrite_keeps T).1
  | wrAddr0F b e =>
    obtain rfl := Host.Outcome.next.inj h
    simp [three]
  | rdStatus | rdNcycles | rdTimestamp0 | rdTimestamp1 | rdTimestamp2 | rdTimestamp3 | rdTimestamp4 | rdZero _ =>
    obtain rfl := Host.Outcome.next.inj h
    exact congrArg (·.windows.e7) s.sequence_persisted
  | _ =>
    obtain rfl := Host.Outcome.next.inj h
    rfl

/-- The eighth place is inactive after any step of a machine with N_OUT = 3 in which it was. -/
theorem step_absentWindow (s t : State) (h : step s = .next t) (three : s.params.nOut = .three)
    (hs : s.persisted.windows.e7 = Window.inactive) : t.persisted.windows.e7 = Window.inactive := by
  unfold step at h
  split at h
  · obtain rfl := Host.Outcome.next.inj h
    rfl
  · split at h
    · exact (exec_absentWindow _ s t h three).trans hs
    · obtain rfl := Host.Outcome.next.inj h
      simpa [State.tickWith] using hs

/-- Settles O51: the reset edge, the Run write and part C each keep the invariants, and the edge that ends the tick
keeps the filter's. -/
theorem stepKeepsInvariants : Obligations.StepKeepsInvariants := by
  intro s t h hst
  rcases step_cases s t hst with ⟨-, rfl⟩ | ⟨T, -, rfl⟩ | ⟨-, b, r, rfl⟩
  · exact h.resetEdge
  · exact h.endTick (h.runWrite T) (s.runWrite_keeps T).2 0
  · have ticked : (s.tickWith r).Inv := h.endTick h.sequence s.sequence_params r
    refine ticked.withPersisted b fun three => ?_
    have three' : s.params.nOut = .three := by simpa [State.tickWith] using three
    exact step_absentWindow s _ hst three' (h.absentWindow three').1

/-! ## The ranges of R158, operation by operation -/

/-- With an empty record only the latched times are left to bound. -/
theorem State.timesInv_of_emptyCycle {s : State} (h : EmptyCycle s) (hl : ∀ i, (s.tsLatched.get i).toNat < 16383) :
    s.TimesInv := by
  obtain ⟨hsig, -, hts⟩ := h
  exact {
    quietZero := fun i _ => by rw [hts]; exact noTimes_get _
    eventRange := fun i hit => by simp [hsig] at hit
    refZero := fun _ => by rw [hts]; rfl
    refRange := by rw [hts]; decide
    latchedRange := hl }

theorem noTimes_get_lt (i : Fin 5) : (noTimes.get i).toNat < 16383 := by
  simp [noTimes_get]

/-- No time being recorded is 16383 (R158). -/
theorem State.TimesInv.tsWork_lt {s : State} (h : s.TimesInv) (i : Fin 5) : (s.tsWork.get i).toNat < 16383 := by
  cases i using Fin.lastCases with
  | last => exact h.refRange
  | cast k =>
    cases hk : s.sig.getLsbD k.val with
    | false =>
      have zero : s.tsWork.get k.castSucc = 0 := h.quietZero k hk
      simp [zero]
    | true =>
      have inCycle : (s.tsWork.get k.castSucc).toNat + 1 ≤ s.active.cycleLength.toNat := (h.eventRange k hk).2
      have bound := s.active.cycleLength.isLt
      omega

/-- Bit i of gatesOpen is the window test of gating channel i (R153). -/
theorem State.gatesOpen_getLsbD (s : State) (i : Fin 4) :
    s.gatesOpen.getLsbD i.val = inwin (s.active.gateWindow s.params.nOut i) s.cycleTime := by
  fin_cases i <;> simp [State.gatesOpen]

/-- No window is open in the first tick of a cycle (R180, R181). -/
theorem cycleTime_pos_of_inwin (w : Window) (ct : Time) (h : inwin w ct = true) : 1 ≤ ct.toNat := by
  simp only [inwin, Bool.and_eq_true, decide_eq_true_eq] at h
  obtain ⟨⟨used, opened⟩, -⟩ := h
  bv_omega

/-- A gated channel's event is accepted in no cycle's first tick (R153, R181). -/
theorem State.cycleTime_pos_of_hit (s : State) (i : Fin 4) (h : s.hits.getLsbD i.val = true) :
    1 ≤ s.cycleTime.toNat := by
  have opened : s.gatesOpen.getLsbD i.val = true := by
    rw [State.hits, BitVec.getLsbD_and, Bool.and_eq_true] at h
    exact h.2
  rw [s.gatesOpen_getLsbD i] at opened
  exact cycleTime_pos_of_inwin _ _ opened

theorem State.sigE_getLsbD (s : State) (i : Nat) : s.sigE.getLsbD i = (s.sig.getLsbD i || s.hits.getLsbD i) :=
  BitVec.getLsbD_or

theorem State.tsE_get_gated (s : State) (i : Fin 4) :
    s.tsE.get ⟨i.val, by omega⟩ = if s.hits.getLsbD i.val then s.cycleTime else s.tsWork.get ⟨i.val, by omega⟩ := by
  fin_cases i <;> rfl

theorem State.tsE_get_ref (s : State) : s.tsE.get 4 = if s.hitRef then s.cycleTime else s.tsWork.get 4 := rfl

/-- In RUNNING the effective record of the tick is in the ranges of the stored one (R155, R158). -/
theorem State.TimesInv.sampled {s : State} (ht : s.TimesInv)
    (hcycle : s.cycleTime.toNat < s.active.cycleLength.toNat) : s.sampled.TimesInv where
  quietZero i (quiet : s.sigE.getLsbD i.val = false) := by
    rw [s.sigE_getLsbD, Bool.or_eq_false_iff] at quiet
    obtain ⟨stored, noHit⟩ := quiet
    calc s.tsE.get ⟨i.val, _⟩
        = s.tsWork.get ⟨i.val, _⟩ := by rw [s.tsE_get_gated i, noHit]; rfl
      _ = 0 := ht.quietZero i stored
  eventRange i (event : s.sigE.getLsbD i.val = true) := by
    change 1 ≤ (s.tsE.get ⟨i.val, _⟩).toNat ∧ (s.tsE.get ⟨i.val, _⟩).toNat + 1 ≤ s.active.cycleLength.toNat
    rw [s.tsE_get_gated i]
    cases hit : s.hits.getLsbD i.val with
    | true => exact ⟨s.cycleTime_pos_of_hit i hit, hcycle⟩
    | false =>
      rw [s.sigE_getLsbD, hit, Bool.or_false] at event
      exact ht.eventRange i event
  refZero (unseen : s.seen4E = false) := by
    rw [State.seen4E, Bool.or_eq_false_iff] at unseen
    obtain ⟨stored, noHit⟩ := unseen
    calc s.tsE.get 4
        = s.tsWork.get 4 := by rw [s.tsE_get_ref, noHit]; rfl
      _ = 0 := ht.refZero stored
  refRange := by
    change (s.tsE.get 4).toNat < 16383
    rw [s.tsE_get_ref]
    have bound := s.active.cycleLength.isLt
    cases s.hitRef with
    | true => exact (by omega : s.cycleTime.toNat < 16383)
    | false => exact ht.refRange
  latchedRange := ht.latchedRange

/-- An exit keeps the ranges when the times it latches are in range. -/
theorem State.exit_timesInv (s : State) (c : ExitCause) (idx : BitVec 2) (ts : Quint Time) (n : Time)
    (h : ∀ i, (ts.get i).toNat < 16383) : (s.exit c idx ts n).TimesInv :=
  State.timesInv_of_emptyCycle ⟨rfl, rfl, rfl⟩ h

theorem State.TimesInv.stepArmed {s : State} (ht : s.TimesInv) : s.stepArmed.TimesInv := by
  rcases s.stepArmed_cases with ⟨-, hs⟩ | ⟨-, -, hs⟩ | ⟨-, -, hs⟩ <;> rw [hs]
  · exact { ht with }
  · exact s.exit_timesInv .timeout 0 s.tsWork s.nCycles ht.tsWork_lt
  · exact { ht with }

/-- A run that goes on empties the record at a wrap and keeps the effective one elsewhere (R155). -/
theorem State.TimesInv.continueRun {s : State} (ht : s.TimesInv)
    (hcycle : s.cycleTime.toNat < s.active.cycleLength.toNat) : s.continueRun.TimesInv := by
  cases hw : s.wraps with
  | true =>
    rw [s.continueRun_of_wraps hw]
    exact State.timesInv_of_emptyCycle ⟨rfl, rfl, rfl⟩ ht.latchedRange
  | false =>
    rw [s.continueRun_of_not_wraps hw]
    exact { ht.sampled hcycle with }

theorem State.TimesInv.stepRunning {s : State} (ht : s.TimesInv)
    (hcycle : s.cycleTime.toNat < s.active.cycleLength.toNat) : s.stepRunning.TimesInv := by
  have latched : ∀ i, (s.tsE.get i).toNat < 16383 := (ht.sampled hcycle).tsWork_lt
  rcases s.stepRunning_cases with ⟨idx, -, hs⟩ | ⟨-, -, hs⟩ | ⟨-, -, -, hs⟩ | ⟨-, -, -, hs⟩ <;> rw [hs]
  · exact s.exit_timesInv .heralded idx s.tsE s.nCyclesNext latched
  · exact s.exit_timesInv .timeout 0 s.tsE s.nCyclesNext latched
  · exact s.exit_timesInv .timeout 0 s.tsE s.nCyclesNext latched
  · exact ht.continueRun hcycle

/-- Part C of R262 keeps the ranges; a run's cycle_time is a tick of its cycle by R49. -/
theorem State.TimesInv.sequence {s : State} (ht : s.TimesInv) (h : s.Inv) : s.sequence.TimesInv := by
  cases hp : s.phase with
  | idle => rwa [s.sequence_idle hp]
  | armed => rw [s.sequence_armed hp]; exact ht.stepArmed
  | running => rw [s.sequence_running hp]; exact ht.stepRunning (h.runningInCycle hp)

/-- A Run write empties the record of the cycle and in case ZERO alone clears the latched times (R112). -/
theorem State.runWrite_times (s : State) (t : Word) :
    EmptyCycle (s.runWrite t) ∧ ((s.runWrite t).tsLatched = s.tsLatched ∨
      (t = 0 ∧ (s.runWrite t).phase = .idle ∧ (s.runWrite t).exitCause = .timeout ∧
        (s.runWrite t).tsLatched = noTimes)) := by
  rcases s.runWrite_cases t with ⟨-, hs⟩ | ⟨-, zero, hs⟩ | ⟨-, -, -, hs⟩ | ⟨-, -, -, hs⟩ <;> rw [hs]
  · exact ⟨⟨rfl, rfl, rfl⟩, .inl rfl⟩
  · exact ⟨⟨rfl, rfl, rfl⟩, .inr ⟨zero, rfl, rfl, rfl⟩⟩
  · exact ⟨⟨rfl, rfl, rfl⟩, .inl rfl⟩
  · exact ⟨⟨rfl, rfl, rfl⟩, .inl rfl⟩

theorem State.TimesInv.runWrite {s : State} (ht : s.TimesInv) (t : Word) : (s.runWrite t).TimesInv := by
  obtain ⟨empty, same | ⟨-, -, -, zero⟩⟩ := s.runWrite_times t
  · exact State.timesInv_of_emptyCycle empty (same ▸ ht.latchedRange)
  · exact State.timesInv_of_emptyCycle empty (zero ▸ noTimes_get_lt)

/-- Settles O52: a Run write and a reset edge start from an empty record, and part C records only cycle_times. -/
theorem stepKeepsTimestampRanges : Obligations.StepKeepsTimestampRanges := by
  intro s t h ht hst
  rcases step_cases s t hst with ⟨-, rfl⟩ | ⟨T, -, rfl⟩ | ⟨-, b, r, rfl⟩
  · exact { State.reset_timesInv with }
  · exact { ht.runWrite T with }
  · exact { ht.sequence h with }

/-! ## What a tick changes -/

theorem syncFilterStep_same (n : Nat) (v : Bool) (c : Nat) (i : Bool) (h : i = v) :
    syncFilterStep n v c i = (v, 0) := if_pos h

theorem syncFilterStep_turn (n : Nat) (v : Bool) (c : Nat) (i : Bool) (h : i ≠ v) (hn : n ≤ c + 1) :
    syncFilterStep n v c i = (i, 0) := (if_neg h).trans (if_pos hn)

theorem syncFilterStep_count (n : Nat) (v : Bool) (c : Nat) (i : Bool) (h : i ≠ v) (hn : c + 1 < n) :
    syncFilterStep n v c i = (v, c + 1) := (if_neg h).trans (if_neg (Nat.not_le.mpr hn))

/-- Settles O15: part A is the same in every tick without reset, and its filter has the three cases of R235. -/
theorem alwaysOnConditioning : Obligations.AlwaysOnConditioning := by
  intro s hr
  obtain ⟨t, hst⟩ := step_total s
  obtain ⟨hin, hv, hc⟩ := step_conditioning s t hr hst
  refine ⟨t, hst, hin, hv, fun same => ?_, fun other turn => ?_, fun other short => ?_⟩
  all_goals rw [hv, hc, State.syncVNext, State.syncCntNext]
  · simp [syncFilterStep_same _ _ _ _ same]
  · simp [syncFilterStep_turn _ _ _ _ other turn]
  · simp [syncFilterStep_count _ _ _ _ other short]

/-- A tick with neither reset nor a Run write is the sequencer's, up to the persisted bank and bus_rdata. -/
theorem step_noRun (s t : State) (h : step s = .next t) (hn : s.inputNow.NoRun) :
    ∃ b r, t = { s.tickWith r with persisted := b } := by
  obtain ⟨hr, noRun⟩ := hn
  rcases step_cases s t h with ⟨reset, -⟩ | ⟨T, ⟨-, run⟩, -⟩ | ⟨-, ht⟩
  · exact absurd (hr.symm.trans reset) nofun
  · exact absurd run (noRun T)
  · exact ht

/-- Settles O28: the sequencer writes neither the active bank nor T_a, and no other operation reaches them. -/
theorem onlyRunWritesActiveBank : Obligations.OnlyRunWritesActiveBank := by
  intro s hn
  obtain ⟨t, hst⟩ := step_total s
  obtain ⟨b, r, rfl⟩ := step_noRun s t hst hn
  exact ⟨_, hst, s.sequence_active, s.sequence_maxRunTime⟩

/-! ## The persisted bank is not looked at -/

/-- Part C does not look at the persisted bank (R30): the other bank passes unread through every branch, and the
conditions are the same. -/
theorem State.sequence_withPersisted (s : State) (b : Bank) :
    (s.withPersisted b).sequence = s.sequence.withPersisted b := by
  cases hp : s.phase with
  | idle => rw [s.sequence_idle hp, (s.withPersisted b).sequence_idle hp]
  | armed =>
    rw [s.sequence_armed hp, (s.withPersisted b).sequence_armed hp]
    unfold State.stepArmed
    simp only [apply_ite (State.withPersisted · b)]
    rfl
  | running =>
    rw [s.sequence_running hp, (s.withPersisted b).sequence_running hp]
    have herald : (s.withPersisted b).heraldExit = s.heraldExit := rfl
    unfold State.stepRunning State.continueRun
    rw [herald]
    cases s.heraldExit with
    | some idx => rfl
    | none =>
      simp only [apply_ite (State.withPersisted · b)]
      rfl

theorem State.tickWith_withPersisted (s : State) (b : Bank) (r : Word) :
    (s.withPersisted b).tickWith r = (s.tickWith r).withPersisted b :=
  congrArg (s.endTick · r) (s.sequence_withPersisted b)

theorem State.tickStoring_withPersisted (s : State) (b c : Bank) :
    (s.withPersisted b).tickStoring c = (s.tickStoring c).withPersisted c := by
  rw [State.tickStoring, s.tickWith_withPersisted b 0]
  rfl

/-- A Run write apart, no operation lets the persisted bank reach anything else: a read's word does not come from it,
and a write's bank is stored in its place. -/
theorem exec_withPersisted (i : Instr) (s : State) (b : Bank) (noRun : ∀ T, i ≠ .wrRun T) :
    ∃ t c, exec i s = .next t ∧ exec i (s.withPersisted b) = .next (t.withPersisted c) := by
  cases i with
  | wrRun T => exact absurd rfl (noRun T)
  | rdStatus | rdNcycles | rdTimestamp0 | rdTimestamp1 | rdTimestamp2 | rdTimestamp3 | rdTimestamp4 | rdZero _ =>
    exact ⟨_, _, rfl, congrArg Host.Outcome.next (s.tickWith_withPersisted b _)⟩
  | _ => exact ⟨_, _, rfl, congrArg Host.Outcome.next (s.tickStoring_withPersisted b _)⟩

/-- A tick without a Run write is the same under any persisted bank, but for that bank. -/
theorem step_withPersisted (s : State) (b : Bank) (hn : s.inputNow.NoRun) :
    ∃ t c, step s = .next t ∧ step (s.withPersisted b) = .next (t.withPersisted c) := by
  obtain ⟨hr, noRun⟩ := hn
  cases ho : s.inputNow.operation with
  | none =>
    rw [step_of_no_operation s hr ho, step_of_no_operation (s.withPersisted b) hr ho]
    exact ⟨_, b, rfl, congrArg Host.Outcome.next (s.tickWith_withPersisted b 0)⟩
  | some i =>
    rw [step_of_operation s i hr ho, step_of_operation (s.withPersisted b) i hr ho]
    exact exec_withPersisted i s b fun T hi => noRun T (hi ▸ ho)

/-- Settles O30: of a tick without a Run write only the persisted bank depends on the persisted bank. -/
theorem persistedBankUnseen : Obligations.PersistedBankUnseen := fun s b hn => by
  obtain ⟨t, c, ht, hu⟩ := step_withPersisted s b hn
  exact ⟨t, t.withPersisted c, ht, hu, rfl⟩

/-! ## The latched times -/

theorem State.continueRun_tsLatched (s : State) : s.continueRun.tsLatched = s.tsLatched := by
  unfold State.continueRun
  split <;> rfl

/-- Part C latches times only by an exit from ARMED or RUNNING, for a timeout or a herald (R43, R290). -/
theorem State.sequence_latches (s : State) :
    s.sequence.tsLatched = s.tsLatched ∨
    (s.phase ≠ .idle ∧ s.sequence.phase = .idle ∧
      (s.sequence.exitCause = .timeout ∨ s.sequence.exitCause = .heralded)) := by
  cases hp : s.phase with
  | idle => exact .inl (by rw [s.sequence_idle hp])
  | armed =>
    rw [s.sequence_armed hp]
    rcases s.stepArmed_cases with ⟨-, hs⟩ | ⟨-, -, hs⟩ | ⟨-, -, hs⟩ <;> rw [hs]
    · exact .inl rfl
    · exact .inr ⟨nofun, rfl, .inl rfl⟩
    · exact .inl rfl
  | running =>
    rw [s.sequence_running hp]
    rcases s.stepRunning_cases with ⟨idx, -, hs⟩ | ⟨-, -, hs⟩ | ⟨-, -, -, hs⟩ | ⟨-, -, -, hs⟩ <;> rw [hs]
    · exact .inr ⟨nofun, rfl, .inr rfl⟩
    · exact .inr ⟨nofun, rfl, .inl rfl⟩
    · exact .inr ⟨nofun, rfl, .inl rfl⟩
    · exact .inl s.continueRun_tsLatched

/-- Settles O40: of the Run write's cases only ZERO writes ts_latched, and of part C's only the exits. -/
theorem latchedTimesChangeOnlyAtExit : Obligations.LatchedTimesChangeOnlyAtExit := by
  intro s t hr hst changed
  rcases step_cases s t hst with ⟨reset, -⟩ | ⟨T, run, rfl⟩ | ⟨noRun, b, r, rfl⟩
  · exact absurd (hr.symm.trans reset) nofun
  · obtain ⟨-, same | ⟨rfl, idle, cause, zero⟩⟩ := s.runWrite_times T
    · exact absurd same changed
    · exact ⟨idle, .inr ⟨run, cause, zero⟩⟩
  · obtain same | ⟨busy, idle, cause⟩ := s.sequence_latches
    · exact absurd same changed
    · exact ⟨idle, .inl ⟨noRun, busy, cause⟩⟩

/-! ## A placed word -/

theorem decode_of_decodeTableWord (nbits w : Nat) (i : Instr) (h : decodeTableWord nbits w = some i) :
    decode (BitVec.ofNat 38 (w % 2 ^ nbits)) = .ok i := by
  unfold decodeTableWord decodeNat at h
  split at h
  · cases hd : decode (BitVec.ofNat 38 (w % 2 ^ nbits)) with
    | error e => rw [hd] at h; exact nomatch h
    | ok j => rw [hd] at h; exact congrArg Except.ok (Option.some.inj h)
  · exact nomatch h

/-- The ports of a decoded word present its operation (R20, R80). -/
theorem busOperation_of_decode (op : OpWord) (i : Instr) (h : decode op = .ok i) :
    busOperation (if opIsWrite op then 1 else 2) (opAddr op) (opData op) = some i := by
  unfold decode at h
  split at h
  · next write =>
    rw [if_pos write]
    exact congrArg some (Except.ok.inj h)
  · next read =>
    rw [if_neg read]
    split at h
    · exact congrArg some (Except.ok.inj h)
    · exact nomatch h

/-- Settles O10: a placed word's tick has rst low and presents the operation the word decodes to. -/
theorem placedWordIsRun : Obligations.PlacedWordIsRun := fun _ nbits w i h =>
  step_of_operation _ i rfl (busOperation_of_decode _ i (decode_of_decodeTableWord nbits w i h))

/-! ## Outputs -/

/-- Bit c of out is the line of channel c (R261). -/
theorem State.output_out_getLsbD (s : State) (c : Fin 4) : s.output.out.getLsbD c.val = s.outLine c := by
  fin_cases c <;> simp [State.output]

theorem State.outLine_eq_true_iff (s : State) (c : Fin 4) : s.outLine c = true ↔
    (c.val < nOutNat s.params.nOut ∧ s.phase = .running ∧ inwin (s.active.outWindow c) s.cycleTime = true) := by
  simp [State.outLine, and_assoc]

theorem State.outLine_of_not_running (s : State) (c : Fin 4) (h : s.phase ≠ .running) : s.outLine c = false := by
  simp [State.outLine, h]

theorem State.syncO_of_idle (s : State) (h : s.phase = .idle) : s.syncO = false := if_pos (.inl h)

theorem State.syncO_of_standalone (s : State) (h : s.active.standalone = true) : s.syncO = false := if_pos (.inr h)

/-- The master drives the trigger while RUNNING (R232). -/
theorem State.syncO_of_master (s : State) (hs : s.active.standalone = false) (hm : s.active.isMaster = true) :
    s.syncO = true ↔ s.phase = .running := by
  cases hp : s.phase <;> simp [State.syncO, hs, hm, hp]

/-- The slave drives its line while ARMED or RUNNING (R233). -/
theorem State.syncO_of_slave (s : State) (hs : s.active.standalone = false) (hm : s.active.isMaster = false) :
    s.syncO = true ↔ (s.phase = .armed ∨ s.phase = .running) := by
  cases hp : s.phase <;> simp [State.syncO, hs, hm, hp]

/-- Settles O39: each line of out needs RUNNING, and sync_o is 0 in IDLE. -/
theorem outputsInactiveOutsideRunning : Obligations.OutputsInactiveOutsideRunning := by
  refine fun s => ⟨fun notRunning => BitVec.eq_of_getLsbD_eq fun k hk => ?_, s.syncO_of_idle⟩
  calc s.output.out.getLsbD k
      = s.outLine ⟨k, hk⟩ := s.output_out_getLsbD ⟨k, hk⟩
    _ = false := s.outLine_of_not_running _ notRunning
    _ = (0#4).getLsbD k := BitVec.getLsbD_zero.symm

/-- Settles O43: bit c of out is the line of channel c, and the line is the window test while RUNNING. -/
theorem outputLines : Obligations.OutputLines := fun s c => by
  rw [s.output_out_getLsbD c]
  exact s.outLine_eq_true_iff c

/-- Settles O44: sync_o read off role by role. -/
theorem syncOutput : Obligations.SyncOutput := fun s =>
  ⟨s.syncO_of_standalone, s.syncO_of_master, s.syncO_of_slave⟩

end Sys2Proof.Machine
end

section
/-! The family 20_memory.md: what a tick does by the direction bus_op gives, the word it leaves on bus_rdata (R62,
R261) and the persisted bank, which only a write other than Run changes (R64, R69). -/

namespace Sys2Proof.Machine

/-! ## Operations by direction -/

/-- A read's tick is the tick with nothing on the bus, with RegRead of the address on bus_rdata (R116 to R120). -/
theorem exec_decodeRead (a : Addr) (s : State) : exec (decodeRead a) s = .next (s.tickWith (s.regRead a)) := by
  unfold decodeRead
  split <;> simp only [State.regRead, *] <;> rfl

theorem decodeWrite_isWrite (a : Addr) (w : Word) : Laws.OpWord.isWrite (decodeWrite a w) = true := by
  unfold decodeWrite
  split <;> rfl

/-- A write's tick, the Run write's too, leaves 0 on bus_rdata. -/
theorem exec_rdata_of_isWrite (i : Instr) (s t : State) (hw : Laws.OpWord.isWrite i = true)
    (h : exec i s = .next t) : t.rdata = 0 := by
  cases i with
  | rdStatus | rdNcycles | rdTimestamp0 | rdTimestamp1 | rdTimestamp2 | rdTimestamp3 | rdTimestamp4 | rdZero _ =>
    exact nomatch hw
  | _ => rw [← Host.Outcome.next.inj h]; rfl

/-! ## The step by bus_op -/

theorem State.busRdata_of_read (s : State) (h : s.inputNow.op = 2) : s.busRdata = s.regRead s.inputNow.addr := if_pos h

theorem State.busRdata_of_not_read (s : State) (h : s.inputNow.op ≠ 2) : s.busRdata = 0 := if_neg h

/-- bus_op 1 presents the write of bus_addr and bus_wdata (R20). -/
theorem TickInput.operation_of_write (i : TickInput) (h : i.op = 1) :
    i.operation = some (decodeWrite i.addr i.wdata) := by
  rw [TickInput.operation, h]; rfl

/-- bus_op 2 presents the read of bus_addr (R20). -/
theorem TickInput.operation_of_read (i : TickInput) (h : i.op = 2) : i.operation = some (decodeRead i.addr) := by
  rw [TickInput.operation, h]; rfl

/-- The other two codes of bus_op present nothing (R20, R94(d)). -/
theorem TickInput.operation_of_neither (i : TickInput) (hw : i.op ≠ 1) (hr : i.op ≠ 2) : i.operation = none :=
  busOperation_none i.addr i.wdata i.op (by bv_omega)

/-- A tick without reset and without a write is the sequencer's, with the output's word on bus_rdata (R261, R262). -/
theorem step_of_not_write (s : State) (hr : s.inputNow.rst = false) (hw : s.inputNow.op ≠ 1) :
    step s = .next (s.tickWith s.busRdata) := by
  by_cases read : s.inputNow.op = 2
  · rw [s.busRdata_of_read read, step_of_operation s _ hr (TickInput.operation_of_read _ read), exec_decodeRead]
  · rw [s.busRdata_of_not_read read, step_of_no_operation s hr (TickInput.operation_of_neither _ hw read)]

/-- A write to 0x01 is the Run write's tick (R83, R112). -/
theorem step_of_run_write (s : State) (hr : s.inputNow.rst = false) (hw : s.inputNow.op = 1)
    (ha : s.inputNow.addr = 0x01) : step s = .next (s.runTick s.inputNow.wdata) := by
  rw [step_of_operation s _ hr (TickInput.operation_of_write _ hw), ha]
  rfl

/-! ## The word on bus_rdata -/

theorem step_rdata (s t : State) (h : step s = .next t) : t.rdata = s.busRdata := by
  cases hr : s.inputNow.rst with
  | true =>
    obtain rfl : s.resetEdge = t := by simpa [step, hr] using h
    exact s.resetEdge_rdata
  | false =>
    by_cases hw : s.inputNow.op = 1
    · rw [step_of_operation s _ hr (TickInput.operation_of_write _ hw)] at h
      rw [s.busRdata_of_not_read (by simp [hw])]
      exact exec_rdata_of_isWrite _ s t (decodeWrite_isWrite _ _) h
    · rw [step_of_not_write s hr hw] at h
      obtain rfl := Host.Outcome.next.inj h
      exact State.endTick_rdata ..

/-- Settles O14: the reset edge, a write and every other tick each leave the output's word. -/
theorem readDataOfTheTick : Obligations.ReadDataOfTheTick := fun s => by
  obtain ⟨t, ht⟩ := step_total s
  have word := step_rdata s t ht
  exact ⟨t, ht, word, word⟩

/-! ## The persisted bank -/

/-- Settles O29: without a write the tick is the sequencer's, which keeps the bank, and the Run write only reads it. -/
theorem onlyWritesChangePersisted : Obligations.OnlyWritesChangePersisted := by
  intro s hr hop
  by_cases hw : s.inputNow.op = 1
  · have ha : s.inputNow.addr = 0x01 := hop.resolve_left (not_not_intro hw)
    exact ⟨_, step_of_run_write s hr hw ha, (s.runWrite_keeps _).1⟩
  · exact ⟨_, step_of_not_write s hr hw, s.sequence_persisted⟩

end Sys2Proof.Machine
end

section
/-! The family 30_encoding.md: decode and encode agree (R80, R91, R93), the herald layouts are bijections (R85, R86),
and the operations of the timing windows, NCycles and the timestamps (R115, R117 to R119). -/

namespace Sys2Proof

/-! ## What the decoder makes of a written operation -/

theorem decode_encodeWrite_eq {a : Addr} {w : Word} {i : Instr} (h : decodeWrite a w = i) :
    decode (encodeWrite a w) = .ok i :=
  h ▸ decode_encodeWrite a w

theorem decode_encodeRead_eq {a : Addr} {i : Instr} (h : decodeRead a = i) : decode (encodeRead a) = .ok i :=
  h ▸ decode_encodeRead a

/-- The three Config bits come back (R82). -/
theorem decodeWrite_configWord (e m s : Bool) : decodeWrite 0x00 (configWord e m s) = .wrConfig e m s := by
  revert e m s; decide

/-- A narrower field at bit 0 of a word comes back. -/
theorem extractLsb'_zeroExtend {n : Nat} (hn : n ≤ 32) (x : BitVec n) :
    (x.zeroExtend 32 : Word).extractLsb' 0 n = x := by
  ext k hk
  simp [show k < 32 by omega, hk]

/-- At an address whose row has the format TimingWindow, both fields come back (R87). -/
theorem decode_windowWord {c : Time → Time → Instr} {a : Addr}
    (row : ∀ w, decodeWrite a w = c (windowStart w) (windowEnd w)) (b e : Time) :
    decode (encodeWrite a (windowWord b e)) = .ok (c b e) :=
  decode_encodeWrite_eq (by rw [row, windowStart_windowWord, windowEnd_windowWord])

/-- Settles O1: by format, the decoder takes out of the word the fields the encoder put there; at a reserved address
it keeps the address. -/
theorem encodeThenDecode : Obligations.EncodeThenDecode := by
  intro i wf
  cases i with
  | wrConfig e m s => exact decode_encodeWrite_eq (decodeWrite_configWord e m s)
  | wrRun t => exact decode_encodeWrite_eq rfl
  | wrCycleLength l => exact decode_encodeWrite_eq (congrArg Instr.wrCycleLength (extractLsb'_zeroExtend (by decide) l))
  | wrHeralds p => exact decode_encodeWrite_eq (congrArg Instr.wrHeralds (extractLsb'_zeroExtend (by decide) p))
  | wrTimingOut0 b e | wrTimingOut1 b e | wrTimingOut2 b e | wrTimingIn0 b e | wrTimingIn1 b e | wrTimingIn2 b e
  | wrTimingIn3 b e | wrAddr0F b e => exact decode_windowWord (fun _ => rfl) b e
  | wrIgnored a => exact decode_encodeWrite_eq (decodeWrite_reserved a 0 wf)
  | rdZero a => exact decode_encodeRead_eq (decodeRead_reserved a wf)
  | rdStatus | rdNcycles | rdTimestamp0 | rdTimestamp1 | rdTimestamp2 | rdTimestamp3 | rdTimestamp4 =>
    exact decode_encodeRead_eq rfl

/-! ## What decodes -/

/-- A word decodes as the write or the read its parts name; a read has no data (R80). -/
theorem decode_eq_ok {op : OpWord} {i : Instr} (h : decode op = .ok i) :
    (opIsWrite op = true ∧ i = decodeWrite (opAddr op) (opData op)) ∨
    (opIsWrite op = false ∧ opData op = 0 ∧ i = decodeRead (opAddr op)) := by
  unfold decode at h
  split at h
  · next write => exact .inl ⟨write, (Except.ok.inj h).symm⟩
  · next read =>
    split at h
    · next noData => exact .inr ⟨by simpa using read, noData, (Except.ok.inj h).symm⟩
    · exact nomatch h

theorem reservedWrite_iff {a : Addr} :
    reservedWrite a = true ↔ (4 ≤ a.toNat ∧ a.toNat ≤ 7) ∨ 16 ≤ a.toNat := by
  simp [reservedWrite]

theorem reservedRead_iff {a : Addr} :
    reservedRead a = true ↔ a.toNat ≤ 15 ∨ (18 ≤ a.toNat ∧ a.toNat ≤ 23) ∨ 29 ≤ a.toNat := by
  simp [reservedRead, or_assoc]

/-- A write that decodes as ignored has a reserved address (R94(a)). -/
theorem decodeWrite_wf (a : Addr) (w : Word) : (decodeWrite a w).wf = true := by
  unfold decodeWrite
  split
  case h_13 => exact reservedWrite_iff.mpr (by simp only [imp_false] at *; omega)
  all_goals rfl

/-- A read that decodes as a read of zero has a reserved address (R94(b)). -/
theorem decodeRead_wf : ∀ a : Addr, (decodeRead a).wf = true := by decide

/-! ## The parts of an operation word -/

/-- Direction, address and data are all there is in an operation word (R80). -/
theorem opWord_ext {x y : OpWord} (write : opIsWrite x = opIsWrite y) (addr : opAddr x = opAddr y)
    (data : opData x = opData y) : x = y := by
  refine BitVec.eq_of_getLsbD_eq fun k hk => ?_
  rcases Nat.lt_or_ge k 32 with low | high
  · simpa [opData, low] using congrArg (fun z : Word => z.getLsbD k) data
  · obtain rfl | mid : k = 37 ∨ k - 32 < 5 := by omega
    · exact write
    · simpa [opAddr, mid, Nat.add_sub_of_le high] using congrArg (fun z : Addr => z.getLsbD (k - 32)) addr

theorem opIsWrite_and (x y : OpWord) : opIsWrite (x &&& y) = (opIsWrite x && opIsWrite y) := BitVec.getLsbD_and

theorem opAddr_and (x y : OpWord) : opAddr (x &&& y) = opAddr x &&& opAddr y := BitVec.extractLsb'_and

theorem opData_and (x y : OpWord) : opData (x &&& y) = opData x &&& opData y := BitVec.extractLsb'_and

/-- No format ignores the direction or a bit of the address (R80). -/
theorem fieldMask_parts (i : Instr) :
    opIsWrite (Machine.fieldMask i) = true ∧ opAddr (Machine.fieldMask i) = BitVec.allOnes 5 := by
  cases i <;> simp [opIsWrite, opAddr, Machine.fieldMask]

/-- Every operation's word has the direction and the address of its row, and a read's has no data (R80, R93). -/
theorem encode_parts (i : Instr) : Laws.OpWord.Statement i := by
  cases i with
  | rdStatus | rdNcycles | rdTimestamp0 | rdTimestamp1 | rdTimestamp2 | rdTimestamp3 | rdTimestamp4 | rdZero _ =>
    exact Laws.OpWord.of_read _ rfl rfl
  | _ => exact Laws.OpWord.of_write _ _ rfl rfl

/-! ## Encoding what decodes -/

/-- The decoder keeps the address (R93). -/
theorem address_decodeWrite (a : Addr) (w : Word) : Laws.OpWord.address (decodeWrite a w) = a := by
  unfold decodeWrite
  split
  case h_13 => rfl
  all_goals next h => exact (BitVec.eq_of_toNat_eq h).symm

theorem address_decodeRead : ∀ a : Addr, Laws.OpWord.address (decodeRead a) = a := by decide

theorem decodeRead_isWrite : ∀ a : Addr, Laws.OpWord.isWrite (decodeRead a) = false := by decide

/-- Written back, the three Config bits are w[2:0] (R82). -/
theorem configWord_fields (w : Word) (e m s : Bool) : configWord (w.getLsbD 0) (w.getLsbD 1) (w.getLsbD 2) =
    w &&& opData (Machine.fieldMask (.wrConfig e m s)) := by
  ext k hk
  interval_cases k <;> simp [configWord, opData, Machine.fieldMask]

/-- Written back, the CycleLength field is w[13:0] (R84). -/
theorem cycleLengthWord_fields (w : Word) (l : Time) : cycleLengthWord (w.extractLsb' 0 14) =
    w &&& opData (Machine.fieldMask (.wrCycleLength l)) := by
  ext k hk
  interval_cases k <;> simp [cycleLengthWord, opData, Machine.fieldMask]

/-- Written back, the packed heralds are w[19:0] (R85). -/
theorem heraldsWord_fields (w : Word) (p : BitVec 20) : heraldsWord (w.extractLsb' 0 20) =
    w &&& opData (Machine.fieldMask (.wrHeralds p)) := by
  ext k hk
  interval_cases k <;> simp [heraldsWord, opData, Machine.fieldMask]

/-- Written back, the two TimingWindow fields are w[27:0] (R87). -/
theorem windowWord_fields (w : Word) (b e : Time) : windowWord (windowStart w) (windowEnd w) =
    w &&& opData (Machine.fieldMask (.wrTimingOut0 b e)) := by
  ext k hk
  interval_cases k <;> simp [windowWord, windowStart, windowEnd, opData, Machine.fieldMask]

/-- The Run word has no ignored bit (R83). -/
theorem wrRun_fields (w t : Word) : w = w &&& opData (Machine.fieldMask (.wrRun t)) := by
  have all : opData (Machine.fieldMask (.wrRun t)) = BitVec.allOnes 32 := by simp [opData, Machine.fieldMask]
  rw [all, BitVec.and_allOnes]

/-- Of an ignored write every data bit is ignored (R119). -/
theorem wrIgnored_fields (w : Word) (a : Addr) : 0 = w &&& opData (Machine.fieldMask (.wrIgnored a)) := by
  have noField : opData (Machine.fieldMask (.wrIgnored a)) = 0 := by simp [opData, Machine.fieldMask]
  rw [noField]
  exact BitVec.and_zero.symm

theorem opData_encode_decodeWrite (a : Addr) (w : Word) :
    opData (encode (decodeWrite a w)) = w &&& opData (Machine.fieldMask (decodeWrite a w)) := by
  unfold decodeWrite
  split
  all_goals refine (opData_encodeWrite _ _).trans ?_
  · exact configWord_fields w _ _ _
  · exact wrRun_fields w w
  · exact cycleLengthWord_fields w _
  · exact heraldsWord_fields w _
  case h_13 => exact wrIgnored_fields w a
  all_goals exact windowWord_fields w (windowStart w) (windowEnd w)

/-- Encoding what an operation word decodes to clears the bits its format ignores (R81). -/
theorem encode_of_decode {op : OpWord} {i : Instr} (h : decode op = .ok i) :
    encode i = op &&& Machine.fieldMask i := by
  obtain ⟨write, addr, data⟩ := encode_parts i
  obtain ⟨maskWrite, maskAddr⟩ := fieldMask_parts i
  rcases decode_eq_ok h with ⟨hw, rfl⟩ | ⟨hr, noData, rfl⟩
  · refine opWord_ext ?_ ?_ ?_
    · rw [write, Machine.decodeWrite_isWrite, opIsWrite_and, maskWrite, hw]; rfl
    · rw [addr, address_decodeWrite, opAddr_and, maskAddr, BitVec.and_allOnes]
    · rw [opData_and, opData_encode_decodeWrite]
  · refine opWord_ext ?_ ?_ ?_
    · rw [write, decodeRead_isWrite, opIsWrite_and, hr]; rfl
    · rw [addr, address_decodeRead, opAddr_and, maskAddr, BitVec.and_allOnes]
    · rw [data (decodeRead_isWrite _), opData_and, noData]; exact BitVec.zero_and.symm

/-- Settles O2: a reserved row decodes from reserved addresses only, and encoding writes back the parts the word had. -/
theorem decodeThenEncode : Obligations.DecodeThenEncode := fun op i h => by
  refine ⟨?_, encode_of_decode h⟩
  rcases decode_eq_ok h with ⟨-, rfl⟩ | ⟨-, -, rfl⟩
  · exact decodeWrite_wf _ _
  · exact decodeRead_wf _

/-! ## Rejected words -/

/-- A word is rejected exactly when it is a read with data (R80). -/
theorem decode_eq_error_iff (op : OpWord) :
    (∃ e, decode op = .error e) ↔ (opIsWrite op = false ∧ opData op ≠ 0) := by
  cases write : opIsWrite op
  · by_cases noData : opData op = 0
    · simp [decode, write, noData]
    · simp only [decode, write, if_neg noData]
      simpa using noData
  · simp [decode, write]

theorem opData_ne_zero_iff (op : OpWord) : opData op ≠ 0 ↔ ∃ k, k < 32 ∧ op.getLsbD k = true := by
  rw [ne_eq, BitVec.eq_of_getLsbD_eq_iff]
  simp [opData]

/-- Settles O3: the rejected words are the reads whose data is not 0, and the data is op[31:0]. -/
theorem rejectedWordsAreReadsWithData : Obligations.RejectedWordsAreReadsWithData := fun op => by
  rw [decode_eq_error_iff, opData_ne_zero_iff, opIsWrite]

/-- Settles O4: each word's parts, worked out. -/
theorem someWordsDecode : Obligations.SomeWordsDecode :=
  ⟨rfl, rfl, rfl, rfl, rfl, rfl, rfl, rfl, rfl, rfl, rfl, rfl⟩

/-! ## Reserved addresses -/

/-- A write decodes as ignored exactly at the reserved addresses: elsewhere the term would not be well formed. -/
theorem decodeWrite_eq_wrIgnored_iff (a : Addr) (w : Word) :
    decodeWrite a w = .wrIgnored a ↔ reservedWrite a = true := by
  refine ⟨fun h => ?_, decodeWrite_reserved a w⟩
  have wf := decodeWrite_wf a w
  rwa [h] at wf

theorem decodeRead_eq_rdZero_iff (a : Addr) : decodeRead a = .rdZero a ↔ reservedRead a = true := by
  refine ⟨fun h => ?_, decodeRead_reserved a⟩
  have wf := decodeRead_wf a
  rwa [h] at wf

/-- Settles O5: the ports present what the decoder makes of the address, and its reserved rows are R94's ranges. -/
theorem reservedAddresses : Obligations.ReservedAddresses := by
  refine ⟨fun a w => ?_, fun a w => ?_⟩
  · calc busOperation 1 a w = some (.wrIgnored a)
        ↔ decodeWrite a w = .wrIgnored a := Option.some_inj
      _ ↔ reservedWrite a = true := decodeWrite_eq_wrIgnored_iff a w
      _ ↔ _ := reservedWrite_iff
  · calc busOperation 2 a w = some (.rdZero a)
        ↔ decodeRead a = .rdZero a := Option.some_inj
      _ ↔ reservedRead a = true := decodeRead_eq_rdZero_iff a
      _ ↔ _ := reservedRead_iff

end Sys2Proof

namespace Sys2Proof.Machine

/-! ## Herald layouts -/

/-- The steps of a description in turn are a bijection of the words, each step being one. -/
theorem layoutWord_bijective (steps : List LayoutStep) : Function.Bijective (layoutWord steps) := by
  induction steps with
  | nil => exact Function.bijective_id
  | cons st rest ih => exact ih.comp (layoutStep_bijective st)

/-- Settles O6: a layout is layout A after a bijection of the words. -/
theorem heraldUnpackBijective : Obligations.HeraldUnpackBijective := fun l => by
  cases l with
  | layoutA => exact heraldUnpackA_bijective
  | other steps => exact heraldUnpackA_bijective.comp (layoutWord_bijective steps)

/-- The 20 bits of the HERALDS pseudo-operation's word (R98). -/
def packedHeralds (p0 p1 p2 p3 : BitVec 4) (e0 e1 e2 e3 : Bool) : BitVec 20 :=
  (pseudoHeralds p0 p1 p2 p3 e0 e1 e2 e3).wdata.extractLsb' 0 20

/-- Layout A takes back each field where R98 puts it (R85). -/
theorem heraldUnpackA_packedHeralds (p0 p1 p2 p3 : BitVec 4) (e0 e1 e2 e3 : Bool) :
    heraldUnpackA (packedHeralds p0 p1 p2 p3 e0 e1 e2 e3) =
      ⟨{ pattern := p0, enabled := e0 }, { pattern := p1, enabled := e1 },
       { pattern := p2, enabled := e2 }, { pattern := p3, enabled := e3 }⟩ := by
  simp only [heraldUnpackA, packedHeralds, pseudoHeralds, lineWr, Quad.mk.injEq, Herald.mk.injEq]
  refine ⟨⟨?_, by simp⟩, ⟨?_, by simp⟩, ⟨?_, by simp⟩, ⟨?_, by simp⟩⟩ <;>
    (ext k hk; interval_cases k <;> simp)

/-- Settles O7: the line writes 0x03, and layout A undoes the packing. -/
theorem heraldsPseudoOperation : Obligations.HeraldsPseudoOperation := fun p0 p1 p2 p3 e0 e1 e2 e3 =>
  ⟨packedHeralds p0 p1 p2 p3 e0 e1 e2 e3, rfl, heraldUnpackA_packedHeralds p0 p1 p2 p3 e0 e1 e2 e3⟩

/-! ## The timing windows -/

/-- The sequencer's tick leaves the active bank and T_a (R65). -/
theorem State.tickWith_sameActive (s : State) (r : Word) : SameActive s (s.tickWith r) :=
  ⟨s.sequence_active, s.sequence_maxRunTime⟩

/-- Settles O19: each of the seven writes is the tick with nothing on the bus that stores its own window. -/
theorem writeTimingWindow : Obligations.WriteTimingWindow := fun s _ _ =>
  ⟨s.tickWith 0, step_silenced s, s.tickWith_sameActive 0, rfl, rfl, rfl, rfl, rfl, rfl, rfl⟩

theorem exec_wrAddr0F_of_three (s : State) (b e : Time) (h : s.params.nOut = .three) :
    exec (.wrAddr0F b e) s = .next (s.tickStoring s.persisted) := by
  simp only [exec, execWrAddr0F, h]

theorem exec_wrAddr0F_of_four (s : State) (b e : Time) (h : s.params.nOut = .four) :
    exec (.wrAddr0F b e) s = .next (s.tickStoring (s.persisted.setWindow 7 b e)) := by
  simp only [exec, execWrAddr0F, h]

/-- Settles O20: the bank the tick stores, for each value of N_OUT. -/
theorem writeAddress0F : Obligations.WriteAddress0F := fun s b e =>
  ⟨s.tickWith 0, step_silenced s, s.tickWith_sameActive 0, exec_wrAddr0F_of_three s b e, exec_wrAddr0F_of_four s b e⟩

/-! ## Reads of a time -/

/-- A time zero-extended to a word keeps its value (R89, R90). -/
theorem toNat_zeroExtend_time (t : Time) : (t.zeroExtend 32 : Word).toNat = t.toNat :=
  BitVec.toNat_setWidth_of_le (by decide)

/-- Settles O25: the word is n_cycles of the state during the tick. -/
theorem readNCycles : Obligations.ReadNCycles :=
  ⟨fun _ => rfl, fun s => ⟨s.tickWith 0, s.nCyclesWord, step_silenced s, rfl, toNat_zeroExtend_time s.nCycles⟩⟩

/-- Settles O26: the word of channel i is ts_latched[i]. -/
theorem readTimestamps : Obligations.ReadTimestamps := by
  refine ⟨fun _ => ⟨rfl, rfl, rfl, rfl, rfl⟩, fun s => ?_⟩
  have value (i : Fin 5) : (s.timestampWord i).toNat = (s.tsLatched.get i).toNat := toNat_zeroExtend_time _
  exact ⟨s.tickWith 0, step_silenced s, ⟨_, rfl, value 0⟩, ⟨_, rfl, value 1⟩, ⟨_, rfl, value 2⟩, ⟨_, rfl, value 3⟩,
    ⟨_, rfl, value 4⟩⟩

end Sys2Proof.Machine
end

section
/-! The family 40_register_file.md: what each operation of the Register File writes and returns, over the tick with
nothing on the bus (R111 to R121). -/

namespace Sys2Proof.Machine

/-! ## The Run write by its cases (R112 step 4) -/

theorem State.runWrite_of_refused (s : State) (t : Word)
    (h : s.persisted.enable = false ∨ s.persisted.cycleLength = 0) :
    s.runWrite t = { s.snapshot t with phase := .idle, exitCause := .refused } := if_pos h

/-- Past the case REFUSED the Run write looks at the run time, then at the role. -/
theorem State.runWrite_of_accepted (s : State) (t : Word) (he : s.persisted.enable = true)
    (hl : s.persisted.cycleLength ≠ 0) :
    s.runWrite t =
      if t = 0 then { s.snapshot t with phase := .idle, exitCause := .timeout, tsLatched := noTimes }
      else if s.persisted.standalone then { s.snapshot t with phase := .running }
      else { s.snapshot t with phase := .armed } :=
  if_neg (not_or.mpr ⟨by simp [he], hl⟩)

/-- The Run write's tick over the state the Run write leaves. -/
theorem exec_wrRun_of_runWrite {s n : State} {t : Word} (h : s.runWrite t = n) :
    exec (.wrRun t) s = .next (s.endTick n 0) := by
  rw [← h]; rfl

/-- Settles O23: the state each case leaves, under part A of the tick. -/
theorem runWrite : Obligations.RunWrite := by
  refine ⟨fun _ => rfl, fun s t => ⟨_, rfl, fun refused => ?_, fun he hl zero => ?_, fun he hl run alone => ?_,
    fun he hl run paired => ?_⟩⟩
  · exact exec_wrRun_of_runWrite (s.runWrite_of_refused t refused)
  all_goals have accepted := s.runWrite_of_accepted t he hl
  · exact exec_wrRun_of_runWrite (accepted.trans (if_pos zero))
  · exact exec_wrRun_of_runWrite (accepted.trans ((if_neg run).trans (if_pos alone)))
  · exact exec_wrRun_of_runWrite (accepted.trans ((if_neg run).trans (if_neg (by simp [paired]))))

/-! ## Config, CycleLength and Heralds -/

/-- Settles O16: the tick with nothing on the bus that stores the three bits. -/
theorem writeConfig : Obligations.WriteConfig :=
  ⟨fun _ => rfl, fun s _ _ _ => ⟨s.tickWith 0, step_silenced s, s.tickWith_sameActive 0, rfl⟩⟩

/-- Settles O17: the length is stored as it stands, and with the length 0 stored a Run write takes the case REFUSED. -/
theorem writeCycleLength : Obligations.WriteCycleLength := by
  refine ⟨fun _ => rfl, fun s l => ⟨s.tickWith 0, step_silenced s, s.tickWith_sameActive 0, rfl, fun zero T => ?_⟩⟩
  exact ⟨_, exec_wrRun_of_runWrite (State.runWrite_of_refused _ T (.inr zero)), rfl, rfl⟩

/-- Layout A slot by slot (R85). -/
theorem heraldUnpackA_get (w : BitVec 20) (k : Fin 4) : (heraldUnpackA w).get k =
    { pattern := w.extractLsb' (4 * k.val) 4, enabled := w.getLsbD (16 + k.val) } := by
  fin_cases k <;> rfl

/-- Settles O18: the tick stores what the machine's layout unpacks, which for layout A is known slot by slot. -/
theorem writeHeralds : Obligations.WriteHeralds := by
  refine ⟨fun _ => rfl, fun s packed => ⟨s.tickWith 0, heraldUnpack s.params.heraldLayout packed, step_silenced s,
    s.tickWith_sameActive 0, rfl, rfl, fun layoutA k => ?_⟩⟩
  rw [layoutA]
  have slot := heraldUnpackA_get packed k
  exact ⟨congrArg Herald.pattern slot, congrArg Herald.enabled slot⟩

/-! ## The timing windows by address -/

/-- A TimingWindow word written to 0x08 + j stores window j, wherever the machine has one (R87, R92, R115). -/
theorem exec_decodeWrite_window (s : State) (w : Word) (j : Fin 8) (hj : j.val < nOutNat s.params.nOut + 4) :
    exec (decodeWrite (BitVec.ofNat 5 (8 + j.val)) w) s =
      .next (s.tickStoring (s.persisted.setWindow j (windowStart w) (windowEnd w))) := by
  match j with
  | 0 | 1 | 2 | 3 | 4 | 5 | 6 => rfl
  | 7 =>
    cases h : s.params.nOut with
    | three => simp [h, nOutNat] at hj
    | four => exact exec_wrAddr0F_of_four s _ _ h

/-- The gating windows follow the output windows (R24). -/
theorem Bank.gateWindow_eq_get (b : Bank) (n : NOut) (i : Fin 4) (j : Fin 8) (h : nOutNat n + i.val = j.val) :
    b.gateWindow n i = b.windows.get j := by
  cases n <;> exact congrArg b.windows.get (Fin.ext h)

theorem Bank.outWindow_eq_get (b : Bank) (c : Fin 4) (j : Fin 8) (h : c.val = j.val) :
    b.outWindow c = b.windows.get j :=
  congrArg b.windows.get (Fin.ext h)

/-- Settles O21: the write stores window j, and the roles of R24 read it back. -/
theorem timingAddressesByNOut : Obligations.TimingAddressesByNOut := by
  rintro s w j _ hj rfl
  refine ⟨_, s.tickWith 0, _, rfl, step_silenced s, s.tickWith_sameActive 0, rfl, exec_decodeWrite_window s w j hj,
    fun c _ hc => ?_, fun k hk => ?_⟩
  · rw [Bank.outWindow_eq_get _ c j hc, Octet.get_set_same]
  · rw [Bank.gateWindow_eq_get _ _ k j hk, Octet.get_set_same]

/-! ## Addresses without a register -/

/-- A tick that stores the bank it has is the tick with nothing on the bus. -/
theorem State.tickStoring_self (s : State) : s.tickStoring s.persisted = s.tickWith 0 :=
  (s.tickWith_persisted 0).symm

/-- Outside the ranges of R119 an address is reserved for either N_OUT, or it is 0x0F and N_OUT is 3. -/
theorem reservedWrite_or_addr0F_of_unmapped (a : Addr) (n : NOut) (low : ¬ a.toNat ≤ 3)
    (window : ¬ (8 ≤ a.toNat ∧ a.toNat ≤ 8 + nOutNat n + 3)) :
    reservedWrite a = true ∨ (a = 0x0F ∧ n = .three) := by
  rw [reservedWrite_iff]
  cases n with
  | three =>
    by_cases last : a = 0x0F
    · exact .inr ⟨last, rfl⟩
    · left
      simp only [nOutNat] at window
      bv_omega
  | four =>
    left
    simp only [nOutNat] at window
    omega

/-- Settles O22: at an unmapped address the tick stores the bank it has. -/
theorem writeIgnored : Obligations.WriteIgnored := by
  refine fun s a => ⟨s.tickWith 0, step_silenced s, s.sequence_persisted, s.tickWith_sameActive 0,
    congrArg Host.Outcome.next s.tickStoring_self, fun w low window => ⟨decodeWrite a w, rfl, ?_⟩⟩
  rw [← s.tickStoring_self]
  rcases reservedWrite_or_addr0F_of_unmapped a s.params.nOut low window with reserved | ⟨rfl, three⟩
  · rw [decodeWrite_reserved a w reserved]; rfl
  · exact exec_wrAddr0F_of_three s _ _ three

/-! ## The Status word -/

/-- The Status word's three fields at their places (R88). -/
theorem State.statusWord_fields (s : State) :
    s.statusWord.getLsbD 0 = s.isBusy ∧ s.statusWord.extractLsb' 1 3 = s.exitCause.code ∧
      s.statusWord.extractLsb' 4 2 = s.heraldIndex ∧ s.statusWord.extractLsb' 6 26 = 0#26 := by
  unfold State.statusWord
  generalize s.isBusy = busy, s.exitCause.code = code, s.heraldIndex = idx
  revert busy code idx
  decide

/-- A busy machine's Status word: the record is empty (R49). -/
theorem State.Inv.statusWord_of_busy {s : State} (h : s.Inv) (busy : s.phase ≠ .idle) : s.statusWord = 0x01 := by
  obtain ⟨cause, idx⟩ := h.busyNoCause busy
  simp [State.statusWord, State.isBusy, busy, cause, idx, ExitCause.code]

/-- An idle machine's Status word is the record of its last exit: the index is 0 but after a herald exit (R49). -/
theorem State.Inv.statusWord_of_idle {s : State} (h : s.Inv) (idle : s.phase = .idle) :
    s.statusWord ∈ [0x00, 0x04, 0x06, 0x16, 0x26, 0x36, 0x08] := by
  have word : s.statusWord = (s.exitCause.code.zeroExtend 32 <<< 1) ||| (s.heraldIndex.zeroExtend 32 <<< 4) := by
    simp [State.statusWord, State.isBusy, idle]
  rw [word]
  cases cause : s.exitCause with
  | heralded => generalize s.heraldIndex = idx; revert idx; decide
  | complete => exact absurd cause h.neverComplete
  | none | timeout | refused => rw [h.indexOnlyHeralded (by simp [cause])]; decide

/-- Settles O24: the word's fields, and under the invariants its value by the phase. -/
theorem readStatus : Obligations.ReadStatus := by
  refine ⟨fun _ => rfl, fun s => ?_⟩
  obtain ⟨busyBit, causeBits, indexBits, restBits⟩ := s.statusWord_fields
  refine ⟨s.tickWith 0, s.statusWord, step_silenced s, rfl, ?_, ?_, indexBits, restBits,
    State.Inv.statusWord_of_busy, fun h => ?_⟩
  · rw [busyBit, State.isBusy, decide_eq_true_iff]
  · exact causeBits.trans (by cases s.exitCause <;> rfl)
  · by_cases idle : s.phase = .idle
    · have word := h.statusWord_of_idle idle
      simp only [List.mem_cons, List.not_mem_nil, or_false] at word
      exact word.imp_right .inr
    · exact .inr (.inl (h.statusWord_of_busy idle))

/-! ## Ticks that read nothing -/

/-- Settles O27: any other address is reserved for reads, and the tick is the one with nothing on the bus. -/
theorem readZero : Obligations.ReadZero := by
  refine ⟨fun a _ status nCycles timestamps => ?_, fun s _ => ⟨s.tickWith 0, step_silenced s, rfl, rfl⟩⟩
  exact congrArg some (decodeRead_reserved a (reservedRead_iff.mpr (by bv_omega)))

/-- Settles O11: the ports present no operation, so the tick is the sequencer's alone. -/
theorem tickWithoutOperation : Obligations.TickWithoutOperation := fun s hr hop =>
  ⟨s.tickWith 0, step_of_no_operation s hr (busOperation_none _ _ _ hop), rfl, s.sequence_persisted,
    s.tickWith_sameActive 0⟩

end Sys2Proof.Machine
end

section
/-! The family 41_timestamp_sampler.md: which events the sampler accepts and what it records (R152 to R155), and the
tick of a run that goes on, where the record is kept or emptied (R155, R183, R184). -/

namespace Sys2Proof.Machine

/-! ## Accepted events -/

/-- det[i]: the sample is 1 and the one before it is 0 (R152). -/
theorem State.det_getLsbD (s : State) (i : Nat) (hi : i < 5) :
    s.det.getLsbD i = (s.inputNow.inp.getLsbD i && !s.inPrev.getLsbD i) := by
  simp [State.det, hi]

/-- hit[i] of a gated channel: a rising edge, the channel's first in this cycle, inside its window (R153). -/
theorem State.hits_getLsbD (s : State) (i : Fin 4) :
    s.hits.getLsbD i.val = (s.inputNow.inp.getLsbD i.val && !s.inPrev.getLsbD i.val && !s.sig.getLsbD i.val &&
      inwin (s.active.gateWindow s.params.nOut i) s.cycleTime) := by
  have edge : (s.det.extractLsb' 0 4).getLsbD i.val = s.det.getLsbD i.val := by simp
  rw [State.hits, BitVec.getLsbD_and, BitVec.getLsbD_and, edge, s.det_getLsbD i (by omega), s.gatesOpen_getLsbD i]
  simp

/-- hit[4]: a rising edge, the reference channel's first in this cycle (R154). -/
theorem State.hitRef_eq (s : State) :
    s.hitRef = (s.inputNow.inp.getLsbD 4 && !s.inPrev.getLsbD 4 && !s.seen4) :=
  congrArg (· && !s.seen4) (s.det_getLsbD 4 (by omega))

/-- Settles O46: the bit and the time follow hits, whose bit i is the stated test. -/
theorem samplerGatedChannels : Obligations.SamplerGatedChannels := by
  rintro s i hit rfl
  rw [← s.hits_getLsbD i]
  exact ⟨s.sigE_getLsbD i, s.tsE_get_gated i⟩

/-- Settles O47: the bit and the time follow hitRef, which is the stated test. -/
theorem samplerReferenceChannel : Obligations.SamplerReferenceChannel := by
  rintro s hit rfl
  rw [← s.hitRef_eq]
  exact ⟨rfl, s.tsE_get_ref⟩

/-! ## The tick of a run that goes on -/

theorem State.wraps_iff (s : State) : s.wraps = true ↔ s.cycleTime = s.active.cycleLength - 1 := decide_eq_true_iff

theorem State.timeUp_eq_false_iff (s : State) :
    s.timeUp = false ↔ s.elapsed.toNat + 1 < s.maxRunTime.toNat := by
  simp [State.timeUp]

/-- No herald exit: the edge does not wrap, or no slot matches (R188, R213). -/
theorem State.heraldExit_eq_none_iff (s : State) :
    s.heraldExit = none ↔ (s.cycleTime ≠ s.active.cycleLength - 1 ∨ s.matchIndex = none) := by
  rw [ne_eq, ← s.wraps_iff, ← imp_iff_not_or]
  exact ite_eq_right_iff

/-- The partner counts as present: the run is standalone, or its validated level is 1 (R189, R230). -/
theorem State.partnerAbsent_eq_false_iff (s : State) :
    s.partnerAbsent = false ↔ (s.active.standalone = true ∨ s.syncVNext = true) := by
  rw [State.partnerAbsent, Bool.and_eq_false_iff, Bool.not_eq_false', Bool.not_eq_false']

/-- With none of the three exits RUNNING goes on (R190). -/
theorem State.stepRunning_of_no_exit (s : State) (herald : s.heraldExit = none) (time : s.timeUp = false)
    (partner : s.partnerAbsent = false) : s.stepRunning = s.continueRun := by
  simp [State.stepRunning, herald, time, partner]

/-- A run that goes on stays RUNNING, counts elapsed, and keeps the record of exits and what it runs by. -/
theorem State.continueRun_keeps (s : State) :
    s.continueRun.phase = s.phase ∧ s.continueRun.elapsed = s.elapsed + 1 ∧
      s.continueRun.exitCause = s.exitCause ∧ s.continueRun.heraldIndex = s.heraldIndex ∧
      SameActive s s.continueRun := by
  cases hw : s.wraps with
  | true => rw [s.continueRun_of_wraps hw]; exact ⟨rfl, rfl, rfl, rfl, rfl, rfl⟩
  | false => rw [s.continueRun_of_not_wraps hw]; exact ⟨rfl, rfl, rfl, rfl, rfl, rfl⟩

/-- A wrap edge restarts the cycle, counts the one that ends, and empties the record (R155, R183, R184). -/
theorem State.continueRun_at_wrap (s : State) (h : s.wraps = true) :
    s.continueRun.cycleTime = 0 ∧ s.continueRun.nCycles = s.nCycles + 1 ∧ EmptyCycle s.continueRun := by
  rw [s.continueRun_of_wraps h]
  exact ⟨rfl, if_pos h, rfl, rfl, rfl⟩

/-- Any other edge advances the cycle and keeps the effective record (R155, R183). -/
theorem State.continueRun_within_cycle (s : State) (h : s.wraps = false) :
    s.continueRun.cycleTime = s.cycleTime + 1 ∧ s.continueRun.nCycles = s.nCycles ∧
      s.continueRun.sig = s.sigE ∧ s.continueRun.seen4 = s.seen4E ∧ s.continueRun.tsWork = s.tsE := by
  rw [s.continueRun_of_not_wraps h]
  exact ⟨rfl, if_neg (by simp [h]), rfl, rfl, rfl⟩

/-- Settles O38: none of the three exits applies, so the tick's part C is continueRun. -/
theorem runningGoesOn : Obligations.RunningGoesOn := by
  intro s noRun running noHerald inTime partner
  obtain ⟨t, hst⟩ := step_total s
  obtain ⟨b, r, rfl⟩ := step_noRun s t hst noRun
  have goesOn : s.sequence = s.continueRun := by
    rw [s.sequence_running running]
    exact s.stepRunning_of_no_exit (s.heraldExit_eq_none_iff.mpr noHerald) (s.timeUp_eq_false_iff.mpr inTime)
      (s.partnerAbsent_eq_false_iff.mpr partner)
  rw [s.tickWith_eq, goesOn] at hst
  obtain ⟨phase, elapsed, cause, index, active⟩ := s.continueRun_keeps
  have counted : s.continueRun.elapsed.toNat = s.elapsed.toNat + 1 := by
    rw [elapsed]
    bv_omega
  refine ⟨_, hst, phase.trans running, counted, cause, index, s.continueRun_tsLatched, active, ?_, ?_⟩
  · intro atWrap
    obtain ⟨restarted, cycles, empty⟩ := s.continueRun_at_wrap (s.wraps_iff.mpr atWrap)
    exact ⟨restarted, (congrArg BitVec.toNat cycles).trans (BitVec.toNat_add ..), empty⟩
  · intro notLast
    exact s.continueRun_within_cycle (Bool.eq_false_iff.mpr (mt s.wraps_iff.mp notLast))

end Sys2Proof.Machine
end

section
/-! The family 42_cycle_sequencer.md: the window test (R180, R181), what the sequencer does at one edge in IDLE, ARMED
and RUNNING (R172 to R190), and the runs of many ticks of a standalone machine (R193) and of a slave without a master
(R240, R246). -/

namespace Sys2Proof.Machine

/-! ## The window test -/

theorem inwin_iff (w : Window) (ct : Time) :
    inwin w ct = true ↔ (w.tStart ≠ 0 ∧ w.tStart.toNat ≤ ct.toNat ∧ ct.toNat < w.tEnd.toNat) := by
  rw [inwin, Bool.and_eq_true, Bool.and_eq_true, decide_eq_true_iff, decide_eq_true_iff, decide_eq_true_iff, and_assoc]

/-- Settles O41: the three conditions of the test. -/
theorem windowTest : Obligations.WindowTest := inwin_iff

/-- Settles O42: below L the bound t_end is met by itself, and an open window needs a cycle_time of at least 1. -/
theorem windowCutAtWrap : Obligations.WindowCutAtWrap := by
  refine fun w ct l inCycle => ⟨fun used late => ?_, Bool.eq_false_iff.mpr fun opened => ?_⟩
  · rw [inwin_iff]
    exact ⟨fun ⟨_, started, _⟩ => started, fun started => ⟨used, started, Nat.lt_of_lt_of_le inCycle late⟩⟩
  · exact absurd (cycleTime_pos_of_inwin w 0 opened) (by decide)

/-! ## One tick of the sequencer -/

/-- A tick with neither reset nor a Run write ends with what part C leaves, up to the persisted bank and bus_rdata. -/
theorem step_of_sequence {s n : State} (noRun : s.inputNow.NoRun) (h : s.sequence = n) :
    ∃ b r, step s = .next ((s.endTick n r).withPersisted b) := by
  obtain ⟨t, hst⟩ := step_total s
  obtain ⟨b, r, rfl⟩ := step_noRun s t hst noRun
  rw [s.tickWith_eq, h] at hst
  exact ⟨b, r, hst⟩

/-- Where part C exits, the step is that exit (R290, R291). -/
theorem exists_step_exitedWith {s : State} {cause : ExitCause} {idx : BitVec 2} {ts : Quint Time} {n : Time}
    (noRun : s.inputNow.NoRun) (h : s.sequence = s.exit cause idx ts n) :
    ∃ t, step s = .next t ∧ ExitedWith s t cause idx ts n := by
  obtain ⟨b, r, hst⟩ := step_of_sequence noRun h
  exact ⟨_, hst, rfl, rfl, rfl, rfl, rfl, ⟨rfl, rfl, rfl⟩, ⟨rfl, rfl⟩, rfl, rfl⟩

/-- Settles O31: part C leaves an IDLE state as it is. -/
theorem idleDoesNothing : Obligations.IdleDoesNothing := by
  intro s noRun idle
  obtain ⟨b, r, hst⟩ := step_of_sequence noRun (s.sequence_idle idle)
  exact ⟨_, hst, idle, ⟨rfl, rfl, rfl, rfl⟩, ⟨rfl, rfl, rfl⟩, ⟨rfl, rfl⟩, rfl, rfl,
    fun c => s.outLine_of_not_running c (by simp [idle]), s.syncO_of_idle idle⟩

/-! ## ARMED (R174 to R176) -/

/-- The start condition: the level after the edge is 1, and for the slave it was 0 before (R238). -/
theorem State.starts_eq_true_iff (s : State) :
    s.starts = true ↔ (s.syncVNext = true ∧ (s.active.isMaster = true ∨ s.syncV = false)) := by
  cases hm : s.active.isMaster <;> simp [State.starts, State.syncRise, hm]

theorem State.starts_eq_false_iff (s : State) :
    s.starts = false ↔ (s.syncVNext = false ∨ (s.active.isMaster = false ∧ s.syncV = true)) := by
  rw [← Bool.not_eq_true, s.starts_eq_true_iff, not_and_or, not_or, Bool.not_eq_true, Bool.not_eq_true,
    Bool.not_eq_false]

theorem State.timeUp_eq_true_iff (s : State) : s.timeUp = true ↔ s.maxRunTime.toNat ≤ s.elapsed.toNat + 1 :=
  decide_eq_true_iff

theorem State.stepArmed_of_starts (s : State) (h : s.starts = true) :
    s.stepArmed = { s with phase := .running, elapsed := 0, cycleTime := 0 } := if_pos h

/-- Without the start condition ARMED looks at the time. -/
theorem State.stepArmed_of_not_starts (s : State) (h : s.starts = false) :
    s.stepArmed = if s.timeUp then s.exit .timeout 0 s.tsWork s.nCycles else { s with elapsed := s.elapsed + 1 } :=
  if_neg (by simp [h])

/-- Settles O32: the start condition is tested first. -/
theorem armedStarts : Obligations.ArmedStarts := by
  intro s noRun armed level role
  have starts : s.starts = true := s.starts_eq_true_iff.mpr ⟨level, role⟩
  obtain ⟨b, r, hst⟩ := step_of_sequence noRun ((s.sequence_armed armed).trans (s.stepArmed_of_starts starts))
  exact ⟨_, hst, rfl, rfl, rfl, ⟨rfl, rfl, rfl, rfl⟩, ⟨rfl, rfl, rfl⟩, ⟨rfl, rfl⟩⟩

/-- Settles O33: the tick exits with the record ARMED holds, which the invariants make all zero (R49(c)). -/
theorem armedTimesOut : Obligations.ArmedTimesOut := by
  intro s noRun armed noStart time
  have exits : s.sequence = s.exit .timeout 0 s.tsWork s.nCycles := by
    rw [s.sequence_armed armed, s.stepArmed_of_not_starts (s.starts_eq_false_iff.mpr noStart),
      if_pos (s.timeUp_eq_true_iff.mpr time)]
  obtain ⟨t, hst, exited⟩ := exists_step_exitedWith noRun exits
  refine ⟨t, hst, exited, fun inv => ?_⟩
  obtain ⟨-, -, -, latched, cycles, -⟩ := exited
  obtain ⟨-, -, noCycles, -, -, zeroTimes⟩ := inv.armedClean armed
  exact ⟨cycles.trans noCycles, latched.trans zeroTimes⟩

/-- Settles O34: the tick counts elapsed, which does not wrap below T_a. -/
theorem armedWaits : Obligations.ArmedWaits := by
  intro s noRun armed noStart inTime
  have waits : s.sequence = { s with elapsed := s.elapsed + 1 } := by
    rw [s.sequence_armed armed, s.stepArmed_of_not_starts (s.starts_eq_false_iff.mpr noStart),
      if_neg (Bool.eq_false_iff.mp (s.timeUp_eq_false_iff.mpr inTime))]
  obtain ⟨b, r, hst⟩ := step_of_sequence noRun waits
  have counted : (s.elapsed + 1).toNat = s.elapsed.toNat + 1 := by bv_omega
  exact ⟨_, hst, armed, counted, rfl, ⟨rfl, rfl, rfl, rfl⟩, ⟨rfl, rfl, rfl⟩, ⟨rfl, rfl⟩⟩

/-! ## The exits of RUNNING (R186 to R190) -/

/-- The count of an exit: the cycle that ends at the edge counts (R184). -/
theorem State.nCyclesNext_eq (s : State) :
    s.nCyclesNext = if s.cycleTime = s.active.cycleLength - 1 then s.nCycles + 1 else s.nCycles :=
  if_congr s.wraps_iff rfl rfl

/-- A herald exit is tested first (R190). -/
theorem State.stepRunning_of_herald (s : State) (idx : BitVec 2) (h : s.heraldExit = some idx) :
    s.stepRunning = s.exit .heralded idx s.tsE s.nCyclesNext := by
  simp [State.stepRunning, h]

/-- Without a herald exit the run-time exit and the partner-absent exit leave the same record. -/
theorem State.stepRunning_of_timeout (s : State) (noHerald : s.heraldExit = none)
    (h : s.timeUp = true ∨ s.partnerAbsent = true) :
    s.stepRunning = s.exit .timeout 0 s.tsE s.nCyclesNext := by
  rcases h with time | absent
  · simp [State.stepRunning, noHerald, time]
  · simp [State.stepRunning, noHerald, absent]

/-- Settles O35: at a wrap edge the matcher's result is the herald exit. -/
theorem runningHeralded : Obligations.RunningHeralded := by
  intro s idx noRun running atWrap matched
  have herald : s.heraldExit = some idx := (if_pos (s.wraps_iff.mpr atWrap)).trans matched
  have exits : s.sequence = s.exit .heralded idx s.tsE (s.nCycles + 1) := by
    rw [s.sequence_running running, s.stepRunning_of_herald idx herald, s.nCyclesNext_eq, if_pos atWrap]
  exact exists_step_exitedWith noRun exits

/-- The tick of a run that times out, for either reason (R186, R189). -/
theorem exists_step_runningTimeout {s : State} (noRun : s.inputNow.NoRun) (running : s.phase = .running)
    (noHerald : s.cycleTime ≠ s.active.cycleLength - 1 ∨ s.matchIndex = none)
    (h : s.timeUp = true ∨ s.partnerAbsent = true) :
    ∃ t, step s = .next t ∧ ExitedWith s t .timeout 0 s.tsE
      (if s.cycleTime = s.active.cycleLength - 1 then s.nCycles + 1 else s.nCycles) := by
  rw [← s.nCyclesNext_eq]
  exact exists_step_exitedWith noRun ((s.sequence_running running).trans
    (s.stepRunning_of_timeout (s.heraldExit_eq_none_iff.mpr noHerald) h))

/-- Settles O36: the time is up. -/
theorem runningTimesOut : Obligations.RunningTimesOut := fun s noRun running noHerald time =>
  exists_step_runningTimeout noRun running noHerald (.inl (s.timeUp_eq_true_iff.mpr time))

/-- Settles O37: the partner is absent. -/
theorem runningLosesPartner : Obligations.RunningLosesPartner := by
  intro s noRun running noHerald _ paired lost
  have absent : s.partnerAbsent = true := by simp [State.partnerAbsent, paired, lost]
  exact exists_step_runningTimeout noRun running noHerald (.inr absent)

/-! ## Runs of quiet ticks -/

/-- t is reached from s in j ticks that brought neither a reset nor a Run write. -/
structure QuietTicks (s : State) (j : Nat) (t : State) : Prop where
  reached : Host.Core.run core j s = .next t
  script : t.script = s.script.drop j
  params : t.params = s.params
  sameActive : SameActive s t

theorem QuietTicks.zero (s : State) : QuietTicks s 0 s := ⟨rfl, rfl, rfl, rfl, rfl⟩

/-- One more quiet tick. -/
theorem QuietTicks.succ {s t u : State} {j : Nat} (h : QuietTicks s j t) (noRun : t.inputNow.NoRun)
    (hu : step t = .next u) : QuietTicks s (j + 1) u := by
  obtain ⟨script, params, -⟩ := step_script t u hu
  obtain ⟨b, r, rfl⟩ := step_noRun t u hu noRun
  obtain ⟨active, time⟩ := t.tickWith_sameActive r
  exact {
    reached := run_snoc j s t _ h.reached hu
    script := by rw [script, h.script, List.tail_drop]
    params := params.trans h.params
    sameActive := ⟨active.trans h.sameActive.1, time.trans h.sameActive.2⟩ }

/-- The j-th tick's input is one of the first n listed, when n > j are. -/
theorem QuietTicks.inputNow_mem {s t : State} {j n : Nat} (h : QuietTicks s j t) (hj : j < n)
    (listed : n ≤ s.script.length) : t.inputNow ∈ s.script.take n := by
  have hlt : j < s.script.length := by omega
  have now : t.inputNow = s.script[j] :=
    t.inputNow_of_cons _ _ (h.script.trans (List.drop_eq_getElem_cons hlt))
  exact List.mem_take_iff_getElem.mpr ⟨j, by omega, now.symm⟩

/-- A property of tick j that every quiet tick but the n-th hands on to the next holds in all n ticks. -/
theorem State.QuietFor.induction {s : State} {n : Nat} (quiet : s.QuietFor n) {P : State → Nat → Prop}
    (start : P s 0)
    (tick : ∀ j t, j + 1 < n → QuietTicks s j t → t.inputNow ∈ s.script.take n → P t j →
      ∃ u, step t = .next u ∧ P u (j + 1)) :
    ∀ j, j < n → ∃ t, QuietTicks s j t ∧ t.inputNow ∈ s.script.take n ∧ P t j := by
  obtain ⟨listed, noRuns⟩ := quiet
  intro j hj
  induction j with
  | zero =>
    have here := QuietTicks.zero s
    exact ⟨s, here, here.inputNow_mem hj listed, start⟩
  | succ j ih =>
    obtain ⟨t, ht, now, hP⟩ := ih (by omega)
    obtain ⟨u, hu, hP'⟩ := tick j t hj ht now hP
    have next := ht.succ (noRuns _ now) hu
    exact ⟨u, next, next.inputNow_mem hj listed, hP'⟩

/-- The tick of a Run write; the T ticks after it are quiet when their inputs are. -/
theorem State.Presents.step_runTick_quietFor {s : State} {T : Word} (h : s.Presents (.wrRun T))
    (rest : T.toNat + 1 ≤ s.script.length ∧ ∀ i ∈ s.script.tail.take T.toNat, i.NoRun) :
    step s = .next (s.runTick T) ∧ (s.runTick T).QuietFor T.toNat := by
  obtain ⟨noReset, run⟩ := h
  obtain ⟨listed, noRuns⟩ := rest
  refine ⟨step_of_operation s _ noReset run, ?_, noRuns⟩
  change T.toNat ≤ s.script.tail.length
  rw [List.length_tail]
  omega

/-- A timeout's Status word: not running, cause TIMEOUT, index 0 (R88). -/
theorem ExitedWith.statusWord_timeout {s t : State} {ts : Quint Time} {n : Time}
    (h : ExitedWith s t .timeout 0 ts n) : t.statusWord = 0x4 := by
  obtain ⟨idle, cause, index, -⟩ := h
  simp [State.statusWord, State.isBusy, idle, cause, index, ExitCause.code]

/-! ## The counters of a run (R193) -/

/-- At the last tick of a cycle of L ticks the quotient counts and the remainder returns to 0. -/
theorem succ_div_mod_of_last {j L : Nat} (h : j % L + 1 = L) : (j + 1) / L = j / L + 1 ∧ (j + 1) % L = 0 := by
  have parts := Nat.div_add_mod j L
  refine (Nat.div_mod_unique (by omega)).mpr ⟨?_, by omega⟩
  rw [Nat.mul_succ]
  omega

/-- At any other tick the remainder counts. -/
theorem succ_div_mod_of_not_last {j L : Nat} (hL : 0 < L) (h : j % L + 1 ≠ L) :
    (j + 1) / L = j / L ∧ (j + 1) % L = j % L + 1 := by
  have parts := Nat.div_add_mod j L
  have below := Nat.mod_lt j hL
  exact (Nat.div_mod_unique hL).mpr ⟨by omega, by omega⟩

/-- s is tick j of a run, counted from 0: the counters are where j ticks of cycles of L_a bring them (R193). -/
structure State.InRunTick (s : State) (j : Nat) : Prop where
  running : s.phase = .running
  cycle : 0 < s.active.cycleLength.toNat
  cycleTime : s.cycleTime.toNat = j % s.active.cycleLength.toNat
  elapsed : s.elapsed.toNat = j
  nCycles : s.nCycles.toNat = j / s.active.cycleLength.toNat % 16384

/-- The wrap edge of a run is at the end of the last tick of a cycle (R183). -/
theorem State.InRunTick.last_iff {s : State} {j : Nat} (h : s.InRunTick j) :
    s.cycleTime = s.active.cycleLength - 1 ↔ j % s.active.cycleLength.toNat + 1 = s.active.cycleLength.toNat := by
  have cycle := h.cycle
  have cycleTime := h.cycleTime
  bv_omega

/-- cycle_time returns to 0 or advances to that of the next tick (R183). -/
theorem State.InRunTick.cycleTime_next {s : State} {j : Nat} (h : s.InRunTick j) :
    (if s.cycleTime = s.active.cycleLength - 1 then 0 else s.cycleTime + 1).toNat =
      (j + 1) % s.active.cycleLength.toNat := by
  have cycleTime := h.cycleTime
  have below := Nat.mod_lt j h.cycle
  split
  case isTrue last => exact (succ_div_mod_of_last (h.last_iff.mp last)).2.symm
  case isFalse notLast =>
    rw [(succ_div_mod_of_not_last h.cycle (mt h.last_iff.mpr notLast)).2]
    bv_omega

/-- The count with the ending cycle in it is the one of the next tick (R184). -/
theorem State.InRunTick.nCycles_next {s : State} {j : Nat} (h : s.InRunTick j) :
    (if s.cycleTime = s.active.cycleLength - 1 then s.nCycles + 1 else s.nCycles).toNat =
      (j + 1) / s.active.cycleLength.toNat % 16384 := by
  have nCycles := h.nCycles
  split
  case isTrue last =>
    rw [(succ_div_mod_of_last (h.last_iff.mp last)).1, BitVec.toNat_add, nCycles]
    exact Nat.mod_add_mod ..
  case isFalse notLast =>
    rw [(succ_div_mod_of_not_last h.cycle (mt h.last_iff.mpr notLast)).1, nCycles]

/-- A run that goes on is in its next tick (R183, R184). -/
theorem State.InRunTick.next {s : State} {j : Nat} (h : s.InRunTick j) (noRun : s.inputNow.NoRun)
    (noHerald : s.cycleTime ≠ s.active.cycleLength - 1 ∨ s.matchIndex = none) (inTime : j + 1 < s.maxRunTime.toNat)
    (partner : s.active.standalone = true ∨ s.syncVNext = true) :
    ∃ t, step s = .next t ∧ t.InRunTick (j + 1) := by
  obtain ⟨t, hst, running, elapsed, -, -, -, ⟨active, -⟩, atWrap, within⟩ :=
    runningGoesOn s noRun h.running noHerald (h.elapsed.symm ▸ inTime) partner
  have cycleTime := h.cycleTime_next
  have nCycles := h.nCycles_next
  have counters : t.cycleTime.toNat = (j + 1) % s.active.cycleLength.toNat ∧
      t.nCycles.toNat = (j + 1) / s.active.cycleLength.toNat % 16384 := by
    by_cases last : s.cycleTime = s.active.cycleLength - 1
    · obtain ⟨restarted, counted, -⟩ := atWrap last
      rw [if_pos last] at cycleTime nCycles
      exact ⟨by rw [restarted, cycleTime], by rw [counted, ← nCycles]; exact (BitVec.toNat_add s.nCycles 1).symm⟩
    · obtain ⟨advanced, same, -⟩ := within last
      rw [if_neg last] at cycleTime nCycles
      exact ⟨by rw [advanced, cycleTime], by rw [same, nCycles]⟩
  refine ⟨t, hst, running, ?_, ?_, by rw [elapsed, h.elapsed], ?_⟩ <;> rw [active]
  · exact h.cycle
  · exact counters.1
  · exact counters.2

/-! ## The standalone run -/

/-- With no slot enabled the matcher reports nothing (R211, R212). -/
theorem State.matchIndex_of_disabled (s : State) (h : ∀ k, (s.active.heralds.get k).enabled = false) :
    s.matchIndex = none := by
  simp [State.matchIndex, State.slotMatches, h]

/-- A standalone run that is accepted is in its tick 0 after the Run write (R112). -/
theorem State.runTick_inRunTick {s : State} {T : Word} (hT : T ≠ 0) (enabled : s.persisted.enable = true)
    (alone : s.persisted.standalone = true) (cycle : s.persisted.cycleLength ≠ 0) :
    (s.runTick T).InRunTick 0 ∧ (s.runTick T).active = s.persisted ∧ (s.runTick T).maxRunTime = T := by
  have write : s.runTick T = s.endTick { s.snapshot T with phase := .running } 0 := by
    rw [State.runTick, s.runWrite_of_accepted T enabled cycle, if_neg hT, if_pos alone]
  rw [write]
  have positive : 0 < s.persisted.cycleLength.toNat := by bv_omega
  exact ⟨⟨rfl, positive, (Nat.zero_mod _).symm, rfl, by rw [Nat.zero_div]; rfl⟩, rfl, rfl⟩

/-- The output lines in tick j of a run (R46). -/
theorem State.InRunTick.outLine_eq {s : State} {j : Nat} (h : s.InRunTick j) (c : Fin 4) :
    s.outLine c = (decide (c.val < nOutNat s.params.nOut) &&
      inwin (s.active.outWindow c) (BitVec.ofNat 14 (j % s.active.cycleLength.toNat))) := by
  rw [← h.cycleTime, BitVec.ofNat_toNat, BitVec.setWidth_eq]
  simp [State.outLine, h.running]

/-- Settles O55: every tick but the T-th hands the counters on, and the T-th exits with the cycles counted. -/
theorem standaloneRun : Obligations.StandaloneRun := by
  rintro s T L presents hT enabled alone rfl hL disabled rest
  obtain ⟨first, quiet⟩ := presents.step_runTick_quietFor rest
  have cycle : s.persisted.cycleLength ≠ 0 := by bv_omega
  obtain ⟨start, active, time⟩ := s.runTick_inRunTick hT enabled alone cycle
  have params : (s.runTick T).params = s.params := (s.runWrite_keeps T).2
  have bank {j : Nat} {t : State} (ht : QuietTicks (s.runTick T) j t) :
      t.active = s.persisted ∧ t.maxRunTime = T ∧ t.matchIndex = none := by
    have active' := ht.sameActive.1.trans active
    exact ⟨active', ht.sameActive.2.trans time, t.matchIndex_of_disabled (active' ▸ disabled)⟩
  have ticks := quiet.induction start fun j t hj ht now inRun => by
    obtain ⟨active', time', noMatch⟩ := bank ht
    exact inRun.next (quiet.2 _ now) (.inr noMatch) (time' ▸ hj) (.inl (active' ▸ alone))
  refine ⟨fun j hj => ?_, ?_⟩
  · obtain ⟨t, ht, -, inRun⟩ := ticks j hj
    obtain ⟨active', -, -⟩ := bank ht
    have lines := inRun.outLine_eq
    have cycleTime := inRun.cycleTime
    have nCycles := inRun.nCycles
    rw [active'] at cycleTime nCycles
    rw [active', ht.params, params] at lines
    exact ⟨t, (run_succ j s _ first).trans ht.reached, inRun.running, cycleTime, inRun.elapsed, nCycles,
      (toNat_zeroExtend_time _).trans nCycles, lines⟩
  · obtain ⟨m, hm⟩ : ∃ m, T.toNat = m + 1 := Nat.exists_eq_add_one.mpr (by bv_omega)
    obtain ⟨t, ht, now, inRun⟩ := ticks m (by omega)
    obtain ⟨active', time', noMatch⟩ := bank ht
    obtain ⟨u, hu, exited⟩ := runningTimesOut t (quiet.2 _ now) inRun.running (.inr noMatch)
      (by rw [time', hm, inRun.elapsed])
    have status := exited.statusWord_timeout
    obtain ⟨idle, -, -, -, cycles, -⟩ := exited
    have count := inRun.nCycles_next
    rw [← cycles, active', ← hm] at count
    refine ⟨u, ?_, idle, (toNat_zeroExtend_time _).trans count, status⟩
    rw [run_succ _ s _ first, hm]
    exact (ht.succ (quiet.2 _ now) hu).reached

/-! ## The slave without a master -/

/-- s is tick j, counted from 0, of a slave's wait for a trigger it has not seen, with the record still empty. -/
structure State.InWaitTick (s : State) (j : Nat) : Prop where
  armed : s.phase = .armed
  elapsed : s.elapsed.toNat = j
  noCause : s.exitCause = .none ∧ s.heraldIndex = 0
  noCycles : s.nCycles = 0
  zeroTimes : s.tsWork = noTimes
  noPartner : s.syncV = false

/-- A low sample leaves a low validated level low (R235). -/
theorem State.syncVNext_of_low (s : State) (level : s.syncV = false) (low : s.inputNow.syncI = false) :
    s.syncVNext = false := by
  rw [State.syncVNext, syncFilterStep_same _ _ _ _ (low.trans level.symm)]
  exact level

/-- The wait goes on while the line stays low and the time is not up (R174). -/
theorem State.InWaitTick.next {s : State} {j : Nat} (h : s.InWaitTick j) (noRun : s.inputNow.NoRun)
    (low : s.inputNow.syncI = false) (inTime : j + 1 < s.maxRunTime.toNat) :
    ∃ t, step s = .next t ∧ t.InWaitTick (j + 1) := by
  have level := s.syncVNext_of_low h.noPartner low
  obtain ⟨t, hst, armed, elapsed, -, ⟨cause, index, cycles, -⟩, ⟨-, -, times⟩, -⟩ :=
    armedWaits s noRun h.armed (.inl level) (h.elapsed.symm ▸ inTime)
  obtain ⟨-, partner, -⟩ := step_conditioning s t noRun.1 hst
  exact ⟨t, hst, armed, by rw [elapsed, h.elapsed], ⟨cause.trans h.noCause.1, index.trans h.noCause.2⟩,
    cycles.trans h.noCycles, times.trans h.zeroTimes, partner.trans level⟩

/-- The wait's last edge exits with an empty record (R176). -/
theorem State.InWaitTick.timesOut {s : State} {j : Nat} (h : s.InWaitTick j) (noRun : s.inputNow.NoRun)
    (low : s.inputNow.syncI = false) (time : s.maxRunTime.toNat ≤ j + 1) :
    ∃ t, step s = .next t ∧ ExitedWith s t .timeout 0 noTimes 0 := by
  have level := s.syncVNext_of_low h.noPartner low
  obtain ⟨t, hst, exited, -⟩ := armedTimesOut s noRun h.armed (.inl level) (h.elapsed.symm ▸ time)
  rw [h.zeroTimes, h.noCycles] at exited
  exact ⟨t, hst, exited⟩

/-- A paired run that is accepted is in tick 0 of its wait after the Run write (R112). -/
theorem State.runTick_inWaitTick {s : State} {T : Word} (hT : T ≠ 0) (enabled : s.persisted.enable = true)
    (paired : s.persisted.standalone = false) (cycle : s.persisted.cycleLength ≠ 0)
    (level : s.syncVNext = false) :
    (s.runTick T).InWaitTick 0 ∧ (s.runTick T).active = s.persisted ∧ (s.runTick T).maxRunTime = T := by
  have write : s.runTick T = s.endTick { s.snapshot T with phase := .armed } 0 := by
    rw [State.runTick, s.runWrite_of_accepted T enabled cycle, if_neg hT, if_neg (by simp [paired])]
  rw [write]
  exact ⟨⟨rfl, rfl, ⟨rfl, rfl⟩, rfl, rfl, level⟩, rfl, rfl⟩

/-- While it waits Status reads running with no cause (R88). -/
theorem State.InWaitTick.statusWord {s : State} {j : Nat} (h : s.InWaitTick j) : s.statusWord = 0x1 := by
  obtain ⟨cause, index⟩ := h.noCause
  simp [State.statusWord, State.isBusy, h.armed, cause, index, ExitCause.code]

/-- Settles O56: every tick but the T-th hands the wait on, and the T-th times out with nothing recorded. -/
theorem slaveWithoutMaster : Obligations.SlaveWithoutMaster := by
  rintro s T presents hT enabled paired slave cycle level ⟨listed, low, noRuns⟩
  obtain ⟨first, quiet⟩ := presents.step_runTick_quietFor ⟨listed, noRuns⟩
  obtain ⟨i, l, script⟩ : ∃ i l, s.script = i :: l := List.exists_cons_of_length_pos (by omega)
  have lowNow : s.inputNow.syncI = false := by
    rw [s.inputNow_of_cons i l script]
    exact low i (by simp [script])
  have lowLater : ∀ i ∈ (s.runTick T).script.take T.toNat, i.syncI = false := by
    intro k (hk : k ∈ s.script.tail.take T.toNat)
    rw [script, List.tail_cons] at hk
    exact low k (by simp [script, hk])
  obtain ⟨start, active, time⟩ := s.runTick_inWaitTick hT enabled paired cycle (s.syncVNext_of_low level lowNow)
  have ticks := quiet.induction start fun j t hj ht now wait =>
    wait.next (quiet.2 _ now) (lowLater _ now) (ht.sameActive.2.trans time ▸ hj)
  refine ⟨fun j hj => ?_, ?_⟩
  · obtain ⟨t, ht, -, wait⟩ := ticks j hj
    have active' := ht.sameActive.1.trans active
    have line : t.syncO = true := (t.syncO_of_slave (active' ▸ paired) (active' ▸ slave)).mpr (.inl wait.armed)
    exact ⟨t, (run_succ j s _ first).trans ht.reached, wait.armed,
      (outputsInactiveOutsideRunning t).1 (by simp [wait.armed]), line, wait.statusWord⟩
  · obtain ⟨m, hm⟩ : ∃ m, T.toNat = m + 1 := Nat.exists_eq_add_one.mpr (by bv_omega)
    obtain ⟨t, ht, now, wait⟩ := ticks m (by omega)
    obtain ⟨u, hu, exited⟩ := wait.timesOut (quiet.2 _ now) (lowLater _ now)
      (by rw [ht.sameActive.2, time, hm])
    have status := exited.statusWord_timeout
    obtain ⟨idle, -, -, latched, cycles, -⟩ := exited
    refine ⟨u, ?_, idle, status, by rw [State.nCyclesWord, cycles]; rfl,
      fun k => by rw [State.timestampWord, latched, noTimes_get]; rfl,
      (outputsInactiveOutsideRunning u).1 (by simp [idle]), u.syncO_of_idle idle⟩
    rw [run_succ _ s _ first, hm]
    exact (ht.succ (quiet.2 _ now) hu).reached

end Sys2Proof.Machine
end

section
/-! The family 43_herald_matcher.md: the matcher reports the lowest enabled slot whose pattern equals the effective one
(R211, R212), and an enabled zero pattern ends a run at the end of a silent cycle (R213, R214). -/

namespace Sys2Proof.Machine

/-- A slot matches when it is enabled and holds the effective sampled pattern (R211). -/
theorem State.slotMatches_eq_true_iff (s : State) (k : Fin 4) : s.slotMatches k = true ↔
    ((s.active.heralds.get k).enabled = true ∧ s.sigE = (s.active.heralds.get k).pattern) := by
  rw [State.slotMatches, Bool.and_eq_true, decide_eq_true_iff]

/-- The two bits of herald_index that name a slot (R212). -/
def slotIndex (k : Fin 4) : BitVec 2 := BitVec.ofNat 2 k.val

theorem slotIndex_toNat (k : Fin 4) : (slotIndex k).toNat = k.val := Nat.mod_eq_of_lt k.isLt

theorem slotIndex_injective : Function.Injective slotIndex := fun j k h =>
  Fin.ext (by rw [← slotIndex_toNat, h, slotIndex_toNat])

/-- The matcher's chain of tests is the library's search for the first slot that matches (R212). -/
theorem State.matchIndex_eq_map_find? (s : State) :
    s.matchIndex = (Fin.find? s.slotMatches).map slotIndex := by
  simp only [Fin.find?_succ, Fin.find?_zero, apply_ite (Option.map _)]
  rfl

theorem State.matchIndex_eq_some_iff (s : State) (k : Fin 4) : s.matchIndex = some (slotIndex k) ↔
    (s.slotMatches k = true ∧ ∀ j < k, s.slotMatches j = false) := by
  rw [s.matchIndex_eq_map_find?, Option.map_eq_some_iff]
  simp only [slotIndex_injective.eq_iff, exists_eq_right, Fin.find?_eq_some_iff]

theorem State.matchIndex_eq_none_iff (s : State) : s.matchIndex = none ↔ ∀ k, s.slotMatches k = false := by
  rw [s.matchIndex_eq_map_find?, Option.map_eq_none_iff, Fin.find?_eq_none_iff]

/-- Settles O48: the first slot found, or none, with R211's condition for a match. -/
theorem matcherLowestSlot : Obligations.MatcherLowestSlot := by
  intro s
  simp only [← and_assoc, ← s.slotMatches_eq_true_iff, Bool.not_eq_true]
  exact ⟨s.matchIndex_eq_some_iff, s.matchIndex_eq_none_iff⟩

/-- When slot k matches, a slot no higher than k is reported (R212). -/
theorem State.exists_matchIndex_le (s : State) (k : Fin 4) (h : s.slotMatches k = true) :
    ∃ idx, s.matchIndex = some idx ∧ idx.toNat ≤ k.val := by
  obtain ⟨j, found⟩ := Option.isSome_iff_exists.mp (Fin.isSome_find?_of_eq_true h)
  obtain ⟨-, first⟩ := Fin.find?_eq_some_iff.mp found
  refine ⟨slotIndex j, by rw [s.matchIndex_eq_map_find?, found, Option.map_some], ?_⟩
  have lowest : j ≤ k := not_lt.mp fun below => Bool.eq_false_iff.mp (first k below) h
  rwa [slotIndex_toNat]

/-- Settles O49: the zero pattern's slot matches, so the wrap edge exits HERALDED with that slot or a lower one. -/
theorem zeroPatternEndsSilentCycle : Obligations.ZeroPatternEndsSilentCycle := by
  intro s k noRun running atWrap silent zeroSlot
  have matched : s.slotMatches k = true := (s.slotMatches_eq_true_iff k).mpr (by simp [zeroSlot, silent])
  obtain ⟨idx, reported, low⟩ := s.exists_matchIndex_le k matched
  obtain ⟨t, hst, idle, cause, index, -, cycles, -⟩ := runningHeralded s idx noRun running atWrap reported
  exact ⟨t, hst, idle, cause, index ▸ low, cycles⟩

end Sys2Proof.Machine
end

section
/-! The family 44_sync_controller.md: in standalone the partner's level does nothing (R230), the lines of a pair are
crossed (R231), the filter turns at the SYNC_FILTER-th sample (R235, R236), and so a slave runs as long as its master,
SYNC_FILTER ticks later, and counts the same cycles (R239, R242). -/

namespace Sys2Proof.Machine

/-! ## Standalone (R230) -/

/-- s with other contents in the two elements of the filter of sync_i (R44). -/
def State.withFilter (s : State) (v : Bool) (c : Nat) : State := { s with syncV := v, syncCnt := c }

/-- At the end of a tick the script goes on by one input whatever part C left of it, so another partner level reaches
the filter only. -/
theorem State.endTick_driveSync (s n : State) (level : Bool) (l : List TickInput) (r : Word) :
    (s.driveSync level).endTick (n.withScript l) r =
      (s.endTick n r).withFilter (s.driveSync level).syncVNext (s.driveSync level).syncCntNext := rfl

/-- In standalone the partner is never absent, and the other two exits do not look at its level. -/
theorem State.sequence_driveSync (s : State) (level : Bool) (alone : s.active.standalone = true)
    (notArmed : s.phase ≠ .armed) :
    (s.driveSync level).sequence = s.sequence.withScript (s.driveSync level).script := by
  cases hp : s.phase with
  | idle => rw [s.sequence_idle hp, (s.driveSync level).sequence_idle hp]; rfl
  | armed => exact absurd hp notArmed
  | running =>
    have present : s.partnerAbsent = false := s.partnerAbsent_eq_false_iff.mpr (.inl alone)
    have present' : (s.driveSync level).partnerAbsent = false :=
      (s.driveSync level).partnerAbsent_eq_false_iff.mpr (.inl alone)
    have herald : (s.driveSync level).heraldExit = s.heraldExit := rfl
    rw [s.sequence_running hp, (s.driveSync level).sequence_running hp]
    unfold State.stepRunning State.continueRun
    rw [present, present', herald]
    cases s.heraldExit with
    | some idx => rfl
    | none =>
      simp only [apply_ite (State.withScript · (s.driveSync level).script)]
      rfl

/-- The Run write does not look at the inputs. -/
theorem State.runWrite_withScript (s : State) (l : List TickInput) (t : Word) :
    (s.withScript l).runWrite t = (s.runWrite t).withScript l := by
  unfold State.runWrite
  simp only [apply_ite (State.withScript · l)]
  rfl

/-- t and u differ at most in the two elements of the filter. -/
def SameButFilter (t u : State) : Prop := u = t.withFilter u.syncV u.syncCnt

theorem State.runTick_driveSync (s : State) (level : Bool) (t : Word) :
    SameButFilter (s.runTick t) ((s.driveSync level).runTick t) := by
  unfold State.runTick
  rw [show (s.driveSync level).runWrite t = _ from s.runWrite_withScript (s.driveSync level).script t,
    s.endTick_driveSync]
  rfl

theorem State.tickWith_driveSync (s : State) (level : Bool) (r : Word) (alone : s.active.standalone = true)
    (notArmed : s.phase ≠ .armed) : SameButFilter (s.tickWith r) ((s.driveSync level).tickWith r) := by
  rw [State.tickWith_eq, State.tickWith_eq, s.sequence_driveSync level alone notArmed, s.endTick_driveSync]
  rfl

theorem State.tickStoring_driveSync (s : State) (level : Bool) (b : Bank) (alone : s.active.standalone = true)
    (notArmed : s.phase ≠ .armed) : SameButFilter (s.tickStoring b) ((s.driveSync level).tickStoring b) :=
  congrArg (State.withPersisted · b) (s.tickWith_driveSync level 0 alone notArmed)

/-- A register operation takes nothing from the partner's level either. -/
theorem exec_driveSync (i : Instr) (s : State) (level : Bool) (alone : s.active.standalone = true)
    (notArmed : s.phase ≠ .armed) :
    ∃ t u, exec i s = .next t ∧ exec i (s.driveSync level) = .next u ∧ SameButFilter t u := by
  cases i with
  | wrRun T => exact ⟨_, _, rfl, rfl, s.runTick_driveSync level T⟩
  | rdStatus | rdNcycles | rdTimestamp0 | rdTimestamp1 | rdTimestamp2 | rdTimestamp3 | rdTimestamp4 | rdZero _ =>
    exact ⟨_, _, rfl, rfl, s.tickWith_driveSync level _ alone notArmed⟩
  | _ => exact ⟨_, _, rfl, rfl, s.tickStoring_driveSync level _ alone notArmed⟩

/-- Settles O45: the reset edge, a tick without an operation and a tick with one. -/
theorem standaloneIgnoresPartner : Obligations.StandaloneIgnoresPartner := by
  intro s level alone notArmed
  cases reset : s.inputNow.rst with
  | true => exact ⟨s.resetEdge, s.resetEdge, if_pos reset, if_pos reset, rfl⟩
  | false =>
    cases ho : s.inputNow.operation with
    | none =>
      exact ⟨_, _, step_of_no_operation s reset ho, step_of_no_operation (s.driveSync level) reset ho,
        s.tickWith_driveSync level 0 alone notArmed⟩
    | some i =>
      rw [step_of_operation s i reset ho, step_of_operation (s.driveSync level) i reset ho]
      exact exec_driveSync i s level alone notArmed

/-! ## The filter (R235, R236) -/

theorem State.filter_same (s : State) (h : s.inputNow.syncI = s.syncV) :
    s.syncVNext = s.syncV ∧ s.syncCntNext = 0 := by
  simp [State.syncVNext, State.syncCntNext, syncFilterStep_same _ _ _ _ h]

theorem State.filter_counts (s : State) (other : s.inputNow.syncI = !s.syncV)
    (short : s.syncCnt + 1 < s.params.syncFilter) :
    s.syncVNext = s.syncV ∧ s.syncCntNext = s.syncCnt + 1 := by
  simp [State.syncVNext, State.syncCntNext, syncFilterStep_count _ _ _ _ (Bool.eq_not.mp other) short]

theorem State.filter_turns (s : State) (other : s.inputNow.syncI = !s.syncV)
    (enough : s.params.syncFilter ≤ s.syncCnt + 1) :
    s.syncVNext = !s.syncV ∧ s.syncCntNext = 0 := by
  rw [State.syncVNext, State.syncCntNext, syncFilterStep_turn _ _ _ _ (Bool.eq_not.mp other) enough]
  exact ⟨other, rfl⟩

/-- After j ticks the input is one of the first n listed, when n > j are. -/
theorem State.inputNow_mem_take {s t : State} {j n : Nat} (script : t.script = s.script.drop j) (hj : j < n)
    (listed : n ≤ s.script.length) : t.inputNow ∈ s.script.take n := by
  have hlt : j < s.script.length := by omega
  have now : t.inputNow = s.script[j] := t.inputNow_of_cons _ _ (script.trans (List.drop_eq_getElem_cons hlt))
  exact List.mem_take_iff_getElem.mpr ⟨j, by omega, now.symm⟩

/-- t is reached from s in j ticks and its filter has counted all of them. -/
structure FilterTicks (s : State) (j : Nat) (t : State) : Prop where
  reached : Host.Core.run core j s = .next t
  script : t.script = s.script.drop j
  params : t.params = s.params
  level : t.syncV = s.syncV
  count : t.syncCnt = j

/-- Samples of the other level are counted up to SYNC_FILTER - 1 of them. -/
theorem exists_filterTicks {s : State} {n : Nat} (rest : s.syncCnt = 0) (listed : n ≤ s.script.length)
    (samples : ∀ i ∈ s.script.take n, i.rst = false ∧ i.syncI = !s.syncV) :
    ∀ j, j ≤ n → j < s.params.syncFilter → ∃ t, FilterTicks s j t := by
  intro j hj short
  induction j with
  | zero => exact ⟨s, rfl, rfl, rfl, rfl, rest⟩
  | succ j ih =>
    obtain ⟨t, ht⟩ := ih (by omega) (by omega)
    obtain ⟨noReset, other⟩ := samples _ (State.inputNow_mem_take ht.script hj listed)
    obtain ⟨u, hu⟩ := step_total t
    obtain ⟨script, params, -⟩ := step_script t u hu
    obtain ⟨-, level, count⟩ := step_conditioning t u noReset hu
    obtain ⟨kept, counted⟩ :=
      t.filter_counts (ht.level ▸ other) (by rw [ht.count, ht.params]; exact short)
    exact ⟨u, {
      reached := run_snoc j s t u ht.reached hu
      script := by rw [script, ht.script, List.tail_drop]
      params := params.trans ht.params
      level := level.trans (kept.trans ht.level)
      count := by rw [count, counted, ht.count] }⟩

/-- Settles O54: the filter counts up to the last but one sample, and the last one turns it. -/
theorem filterTurnsAfterSyncFilter : Obligations.FilterTurnsAfterSyncFilter := by
  intro s k rest positive atMost listed samples
  have counts := exists_filterTicks rest listed samples
  rcases Nat.lt_or_eq_of_le atMost with short | full
  · obtain ⟨t, ht⟩ := counts k le_rfl short
    exact ⟨t, ht.reached, fun _ => ⟨ht.level, ht.count⟩, fun full => absurd full short.ne⟩
  · obtain ⟨m, rfl⟩ : ∃ m, k = m + 1 := Nat.exists_eq_add_one.mpr positive
    obtain ⟨t, ht⟩ := counts m (by omega) (by omega)
    obtain ⟨noReset, other⟩ := samples _ (State.inputNow_mem_take ht.script (Nat.lt_succ_self m) listed)
    obtain ⟨u, hu⟩ := step_total t
    obtain ⟨-, level, count⟩ := step_conditioning t u noReset hu
    obtain ⟨turned, cleared⟩ :=
      t.filter_turns (ht.level ▸ other) (by rw [ht.count, ht.params, full])
    exact ⟨u, run_snoc m s t u ht.reached hu, fun short => absurd full short.ne,
      fun _ => ⟨by rw [level, turned, ht.level], count.trans cleared⟩⟩

/-! ## Ticks of a pair (R231) -/

/-- q becomes r in one tick of each of the two, with the lines crossed. -/
structure Pair.Tick (q r : Pair) : Prop where
  one : Machine.step (q.one.driveSync q.two.syncO) = .next r.one
  two : Machine.step (q.two.driveSync q.one.syncO) = .next r.two

/-- A pair's tick is one tick of each; no tick faults or is refused. -/
theorem Pair.exists_tick (p : Pair) : ∃ r, p.step = .next r ∧ p.Tick r := by
  obtain ⟨a, ha⟩ := step_total (p.one.driveSync p.two.syncO)
  obtain ⟨b, hb⟩ := step_total (p.two.driveSync p.one.syncO)
  exact ⟨⟨a, b⟩, by rw [Pair.step, ha, hb], ha, hb⟩

/-- Settles O57: both machines tick, each on the other's level. -/
theorem pairLinesCrossed : Obligations.PairLinesCrossed := fun p => by
  obtain ⟨r, hr, one, two⟩ := p.exists_tick
  exact ⟨r.one, r.two, one, two, hr, rfl, rfl⟩

/-- What holds after m ticks of a pair, and is handed on by each tick from then to the n-th, holds all that time. -/
theorem Pair.run_induction {p : Pair} {m n : Nat} {P : Nat → Pair → Prop}
    (start : ∃ q, Pair.run m p = .next q ∧ P m q)
    (tick : ∀ k q r, m ≤ k → k < n → Pair.run k p = .next q → Pair.run (k + 1) p = .next r → q.Tick r → P k q →
      P (k + 1) r) :
    ∀ k, m ≤ k → k ≤ n → ∃ q, Pair.run k p = .next q ∧ P k q := by
  intro k hm
  induction k, hm using Nat.le_induction with
  | base => exact fun _ => start
  | succ k hm ih =>
    intro hn
    obtain ⟨q, hq, hP⟩ := ih (by omega)
    obtain ⟨r, hr, both⟩ := q.exists_tick
    have reached := Pair.run_snoc k p q r hq hr
    exact ⟨r, reached, tick k q r hm hn hq reached both hP⟩

/-- What j ticks of one side of a pair keep when none of them brings it a reset or a Run write. -/
structure SideTicks (s : State) (j : Nat) (t : State) : Prop where
  script : t.script = s.script.drop j
  params : t.params = s.params
  sameActive : SameActive s t

theorem SideTicks.zero (s : State) : SideTicks s 0 s := ⟨rfl, rfl, rfl, rfl⟩

theorem SideTicks.noRun {s t : State} {j n : Nat} (h : SideTicks s j t) (quiet : s.QuietFor n) (hj : j < n)
    (level : Bool) : (t.driveSync level).inputNow.NoRun := by
  obtain ⟨listed, noRuns⟩ := quiet
  have now : t.inputNow.NoRun := noRuns _ (State.inputNow_mem_take h.script hj listed)
  exact now

theorem SideTicks.succ {s t u : State} {j : Nat} {level : Bool} (h : SideTicks s j t)
    (noRun : (t.driveSync level).inputNow.NoRun) (hu : step (t.driveSync level) = .next u) :
    SideTicks s (j + 1) u := by
  obtain ⟨script, params, -⟩ := step_script _ u hu
  obtain ⟨b, r, rfl⟩ := step_noRun _ u hu noRun
  obtain ⟨active, time⟩ := (t.driveSync level).tickWith_sameActive r
  exact {
    script := script.trans (by simp [h.script])
    params := params.trans h.params
    sameActive := ⟨active.trans h.sameActive.1, time.trans h.sameActive.2⟩ }

theorem State.QuietFor.mono {s : State} {m n : Nat} (quiet : s.QuietFor n) (h : m ≤ n) : s.QuietFor m := by
  obtain ⟨listed, noRuns⟩ := quiet
  exact ⟨h.trans listed, fun i hi => noRuns i (List.take_subset_take_left s.script h hi)⟩

/-! ## The slave waits for the trigger to be validated (R238, R239) -/

/-- t is an ARMED slave that s becomes in j ticks, all of which its filter has counted as samples of the trigger. -/
structure InTriggerWait (s : State) (j : Nat) (t : State) : Prop where
  side : SideTicks s j t
  armed : t.phase = .armed
  elapsed : t.elapsed.toNat = s.elapsed.toNat + j
  nCycles : t.nCycles = s.nCycles
  level : t.syncV = false
  count : t.syncCnt = j

/-- u is tick 0 of the run that slave s starts after j ticks, with a filter at rest on the trigger's level. -/
structure StartedRun (s : State) (j : Nat) (u : State) : Prop where
  side : SideTicks s j u
  running : u.phase = .running
  elapsed : u.elapsed = 0
  cycleTime : u.cycleTime = 0
  nCycles : u.nCycles = s.nCycles
  level : u.syncV = true
  count : u.syncCnt = 0

/-- Before the SYNC_FILTER-th sample the slave goes on waiting. -/
theorem InTriggerWait.next {s t u : State} {j : Nat} (h : InTriggerWait s j t)
    (noRun : (t.driveSync true).inputNow.NoRun) (short : j + 1 < s.params.syncFilter)
    (inTime : s.elapsed.toNat + j + 1 < s.maxRunTime.toNat) (hu : step (t.driveSync true) = .next u) :
    InTriggerWait s (j + 1) u := by
  obtain ⟨kept, counted⟩ := (t.driveSync true).filter_counts (by simp [h.level])
    (by simpa [h.count, h.side.params] using short)
  have low : (t.driveSync true).syncVNext = false := kept.trans h.level
  obtain ⟨-, level, count⟩ := step_conditioning _ u noRun.1 hu
  obtain ⟨u', hu', armed, elapsed, -, ⟨-, -, cycles, -⟩, -⟩ := armedWaits _ noRun h.armed (.inl low)
    (by simpa [h.elapsed, h.side.sameActive.2] using inTime)
  obtain rfl : u' = u := Host.Outcome.next.inj (hu'.symm.trans hu)
  exact {
    side := h.side.succ noRun hu
    armed
    elapsed := elapsed.trans (by simp [h.elapsed, Nat.add_assoc])
    nCycles := cycles.trans h.nCycles
    level := level.trans low
    count := count.trans (counted.trans (congrArg (· + 1) h.count)) }

/-- At the SYNC_FILTER-th sample the validated level rises, and the slave starts. -/
theorem InTriggerWait.starts {s t u : State} {j : Nat} (h : InTriggerWait s j t)
    (noRun : (t.driveSync true).inputNow.NoRun) (enough : s.params.syncFilter ≤ j + 1)
    (hu : step (t.driveSync true) = .next u) : StartedRun s (j + 1) u := by
  obtain ⟨turned, cleared⟩ := (t.driveSync true).filter_turns (by simp [h.level])
    (by simpa [h.count, h.side.params] using enough)
  have high : (t.driveSync true).syncVNext = true := turned.trans (by simp [h.level])
  obtain ⟨-, level, count⟩ := step_conditioning _ u noRun.1 hu
  obtain ⟨u', hu', running, elapsed, cycleTime, ⟨-, -, cycles, -⟩, -⟩ :=
    armedStarts _ noRun h.armed high (.inr h.level)
  obtain rfl : u' = u := Host.Outcome.next.inj (hu'.symm.trans hu)
  exact {
    side := h.side.succ noRun hu
    running, elapsed, cycleTime
    nCycles := cycles.trans h.nCycles
    level := level.trans high
    count := count.trans cleared }

/-- The premises of R239 that concern the slave, and the trigger's level while its filter counts. -/
structure Pair.Triggered (p : Pair) (n : Nat) : Prop where
  filter : p.two.params.syncFilter = n
  armed : p.two.phase = .armed
  level : p.two.syncV = false
  count : p.two.syncCnt = 0
  time : p.two.elapsed.toNat + n ≤ p.two.maxRunTime.toNat
  quiet : p.two.QuietFor n
  trigger : ∀ k q, k < n → Pair.run k p = .next q → q.one.syncO = true

theorem Pair.Triggered.waits {p : Pair} {n : Nat} (h : p.Triggered n) :
    ∀ k, k < n → ∃ q, Pair.run k p = .next q ∧ InTriggerWait p.two k q.two := by
  intro k hk
  refine Pair.run_induction (P := fun k q => InTriggerWait p.two k q.two)
    ⟨p, rfl, .zero _, h.armed, rfl, rfl, h.level, h.count⟩ ?_ k k.zero_le (Nat.le_sub_one_of_lt hk)
  intro j q r _ hj hq _ both wait
  have time := h.time
  have two := both.two
  rw [h.trigger j q (by omega) hq] at two
  exact wait.next (wait.side.noRun h.quiet (by omega) true) (by rw [h.filter]; omega) (by omega) two

theorem Pair.Triggered.starts {p : Pair} {n : Nat} (h : p.Triggered n) (positive : 1 ≤ n) :
    ∃ q, Pair.run n p = .next q ∧ StartedRun p.two n q.two := by
  obtain ⟨m, rfl⟩ : ∃ m, n = m + 1 := Nat.exists_eq_add_one.mpr positive
  obtain ⟨q, hq, wait⟩ := h.waits m (Nat.lt_succ_self m)
  obtain ⟨r, hr, -, two⟩ := q.exists_tick
  rw [h.trigger m q (Nat.lt_succ_self m) hq] at two
  exact ⟨r, Pair.run_snoc m p q r hq hr,
    wait.starts (wait.side.noRun h.quiet (Nat.lt_succ_self m) true) h.filter.le two⟩

/-- Settles O58: the slave waits while its filter counts, and starts when it turns. -/
theorem pairLockStepOffset : Obligations.PairLockStepOffset := by
  intro p n filter positive armed _ level count time quiet trigger
  have triggered : p.Triggered n := ⟨filter, armed, level, count, time, quiet, trigger⟩
  refine ⟨fun k hk => ?_, ?_⟩
  · obtain ⟨q, hq, wait⟩ := triggered.waits k hk
    exact ⟨q, hq, wait.armed⟩
  · obtain ⟨q, hq, started⟩ := triggered.starts positive
    exact ⟨q, hq, started.running, started.elapsed, started.cycleTime⟩

/-! ## The master's run (R232, R242) -/

/-- A tick of a run goes on to the next one, or ends the run with the cycles of all its ticks counted (R184, R190). -/
theorem State.InRunTick.next_or_ends {s t : State} {j : Nat} (h : s.InRunTick j) (noRun : s.inputNow.NoRun)
    (hst : step s = .next t) :
    t.InRunTick (j + 1) ∨
      (t.phase = .idle ∧ t.nCycles.toNat = (j + 1) / s.active.cycleLength.toNat % 16384) := by
  have ends {cause : ExitCause} {idx : BitVec 2} (exits : s.stepRunning = s.exit cause idx s.tsE s.nCyclesNext) :
      t.phase = .idle ∧ t.nCycles.toNat = (j + 1) / s.active.cycleLength.toNat % 16384 := by
    obtain ⟨t', ht', idle, -, -, -, cycles, -⟩ :=
      exists_step_exitedWith noRun ((s.sequence_running h.running).trans exits)
    obtain rfl : t' = t := Host.Outcome.next.inj (ht'.symm.trans hst)
    exact ⟨idle, by rw [cycles, s.nCyclesNext_eq, h.nCycles_next]⟩
  rcases s.stepRunning_cases with ⟨idx, -, exits⟩ | ⟨-, -, exits⟩ | ⟨-, -, -, exits⟩ | ⟨herald, time, partner, -⟩
  · exact .inr (ends exits)
  · exact .inr (ends exits)
  · exact .inr (ends exits)
  · obtain ⟨t', ht', inRun⟩ := h.next noRun (s.heraldExit_eq_none_iff.mp herald)
      (h.elapsed ▸ s.timeUp_eq_false_iff.mp time) (s.partnerAbsent_eq_false_iff.mp partner)
    obtain rfl : t' = t := Host.Outcome.next.inj (ht'.symm.trans hst)
    exact .inl inRun

/-- t is the master s after k ticks of which it runs the first D. -/
structure MasterTicks (s : State) (D k : Nat) (t : State) : Prop where
  side : SideTicks s k t
  runs : k < D → t.InRunTick k
  ended : D ≤ k → t.phase = .idle ∧ t.nCycles.toNat = D / s.active.cycleLength.toNat % 16384

/-- The trigger is high in the master's D ticks and low after them. -/
theorem MasterTicks.syncO {s t : State} {D k : Nat} (h : MasterTicks s D k t)
    (paired : s.active.standalone = false) (master : s.active.isMaster = true) : t.syncO = decide (k < D) := by
  have active := h.side.sameActive.1
  rcases Nat.lt_or_ge k D with runs | ended
  · rw [(t.syncO_of_master (active ▸ paired) (active ▸ master)).mpr (h.runs runs).running]
    exact (decide_eq_true runs).symm
  · rw [t.syncO_of_idle (h.ended ended).1]
    exact (decide_eq_false (Nat.not_lt.mpr ended)).symm

/-- One more tick, where the D-th tick of the run is known to be its last. -/
theorem MasterTicks.next {s t u : State} {D k : Nat} {level : Bool} (h : MasterTicks s D k t)
    (noRun : (t.driveSync level).inputNow.NoRun) (hu : step (t.driveSync level) = .next u)
    (goesOn : k + 1 < D → u.phase = .running) (last : k + 1 = D → u.phase = .idle) :
    MasterTicks s D (k + 1) u := by
  refine ⟨h.side.succ noRun hu, fun runs => ?_, fun ended => ?_⟩
  · have now : (t.driveSync level).InRunTick k := { h.runs (by omega) with }
    refine (now.next_or_ends noRun hu).resolve_right fun ⟨idle, _⟩ => ?_
    exact absurd ((goesOn runs).symm.trans idle) nofun
  · rcases Nat.lt_or_ge k D with running | idle
    · obtain rfl : k + 1 = D := by omega
      have now : (t.driveSync level).InRunTick k := { h.runs running with }
      rw [← h.side.sameActive.1]
      exact (now.next_or_ends noRun hu).resolve_left fun inRun =>
        absurd ((last rfl).symm.trans inRun.running) nofun
    · obtain ⟨phase, cycles⟩ := h.ended idle
      obtain ⟨u', hu', phase', ⟨-, -, cycles', -⟩, -⟩ := idleDoesNothing (t.driveSync level) noRun phase
      obtain rfl : u' = u := Host.Outcome.next.inj (hu'.symm.trans hu)
      exact ⟨phase', by rw [cycles']; exact cycles⟩

/-- A master that runs D ticks and is then IDLE stays so, with their cycles counted. -/
theorem Pair.exists_masterTicks {p : Pair} {D n : Nat} (start : p.one.InRunTick 0) (positive : 1 ≤ D)
    (quiet : p.one.QuietFor n) (runs : ∀ k q, k < D → Pair.run k p = .next q → q.one.phase = .running)
    (ends : ∀ q, Pair.run D p = .next q → q.one.phase = .idle) :
    ∀ k, k ≤ n → ∃ q, Pair.run k p = .next q ∧ MasterTicks p.one D k q.one := by
  intro k hk
  refine Pair.run_induction (P := fun k q => MasterTicks p.one D k q.one)
    ⟨p, rfl, .zero _, fun _ => start, fun ended => absurd ended (by omega)⟩ ?_ k k.zero_le hk
  intro j q r _ hj _ hr both master
  exact master.next (master.side.noRun quiet hj _) both.one (fun h => runs (j + 1) r h hr)
    fun h => ends r (h ▸ hr)

/-! ## The slave's run (R236, R241, R242) -/

/-- t is the slave s after k ticks, in a run that began n ticks on: its filter counts the ticks since the trigger
fell, which it did after D. -/
structure InFollowTick (s : State) (n D k : Nat) (t : State) : Prop where
  side : SideTicks s k t
  run : t.InRunTick (k - n)
  level : t.syncV = true
  count : t.syncCnt = k - D

/-- The premises of R242 that hold of slave s throughout a master's run of D ticks. -/
structure LockStepSlave (s : State) (n D : Nat) : Prop where
  filter : s.params.syncFilter = n
  paired : s.active.standalone = false
  cycle : 0 < s.active.cycleLength.toNat
  disabled : ∀ k, (s.active.heralds.get k).enabled = false
  time : D ≤ s.maxRunTime.toNat
  noCycles : s.nCycles = 0
  quiet : s.QuietFor (D + n)

/-- A run that has just started is followed from its tick 0. -/
theorem StartedRun.inFollowTick {s t : State} {n D : Nat} (h : StartedRun s n t)
    (slave : LockStepSlave s n D) (atLeast : n ≤ D) : InFollowTick s n D n t where
  side := h.side
  run := {
    running := h.running
    cycle := by rw [h.side.sameActive.1]; exact slave.cycle
    cycleTime := by simp [h.cycleTime]
    elapsed := by simp [h.elapsed]
    nCycles := by simp [h.nCycles, slave.noCycles] }
  level := h.level
  count := by rw [h.count, Nat.sub_eq_zero_of_le atLeast]

/-- Until the trigger has been low for SYNC_FILTER ticks the validated level stays high (R236). -/
theorem InFollowTick.filter_next {s t : State} {n D k : Nat} (h : InFollowTick s n D k t)
    (slave : LockStepSlave s n D) (more : k + 1 < D + n) :
    (t.driveSync (decide (k < D))).syncVNext = true ∧ (t.driveSync (decide (k < D))).syncCntNext = k + 1 - D := by
  have length : t.params.syncFilter = n := by rw [h.side.params, slave.filter]
  have count := h.count
  rcases Nat.lt_or_ge k D with high | low
  · obtain ⟨kept, cleared⟩ := (t.driveSync (decide (k < D))).filter_same (by simp [h.level, high])
    exact ⟨kept.trans h.level, by omega⟩
  · obtain ⟨kept, counted⟩ := (t.driveSync (decide (k < D))).filter_counts (by simp [h.level, low])
      (show t.syncCnt + 1 < t.params.syncFilter by omega)
    rw [State.driveSync_syncCnt] at counted
    exact ⟨kept.trans h.level, by omega⟩

/-- While the validated level is high and the slave's time is not up, its run goes on. -/
theorem InFollowTick.next {s t u : State} {n D k : Nat} (h : InFollowTick s n D k t)
    (slave : LockStepSlave s n D) (began : n ≤ k) (more : k + 1 < D + n)
    (hu : step (t.driveSync (decide (k < D))) = .next u) : InFollowTick s n D (k + 1) u := by
  obtain ⟨active, maxTime⟩ := h.side.sameActive
  obtain ⟨high, counted⟩ := h.filter_next slave more
  have noRun := h.side.noRun slave.quiet (show k < D + n by omega) (decide (k < D))
  have now : (t.driveSync (decide (k < D))).InRunTick (k - n) := { h.run with }
  have noMatch := (t.driveSync (decide (k < D))).matchIndex_of_disabled (by simpa [active] using slave.disabled)
  have inTime : k - n + 1 < t.maxRunTime.toNat := by have := slave.time; rw [maxTime]; omega
  obtain ⟨-, level, count⟩ := step_conditioning _ u noRun.1 hu
  obtain ⟨u', hu', inRun⟩ := now.next noRun (.inr noMatch) inTime (.inr high)
  obtain rfl : u' = u := Host.Outcome.next.inj (hu'.symm.trans hu)
  exact {
    side := h.side.succ noRun hu
    run := by rw [Nat.sub_add_comm began]; exact inRun
    level := level.trans high
    count := count.trans counted }

/-- The SYNC_FILTER-th low sample turns the validated level and ends the run, of D ticks, with TIMEOUT. -/
theorem InFollowTick.ends {s t u : State} {n D k : Nat} (h : InFollowTick s n D k t)
    (slave : LockStepSlave s n D) (began : n ≤ k) (last : k + 1 = D + n) (hu : step (t.driveSync false) = .next u) :
    u.phase = .idle ∧ u.exitCause = .timeout ∧
      u.nCycles.toNat = D / s.active.cycleLength.toNat % 16384 := by
  have active := h.side.sameActive.1
  have noRun := h.side.noRun slave.quiet (show k < D + n by omega) false
  have length : t.params.syncFilter = n := by rw [h.side.params, slave.filter]
  have count := h.count
  obtain ⟨turned, -⟩ := (t.driveSync false).filter_turns (by simp [h.level])
    (show t.params.syncFilter ≤ t.syncCnt + 1 by omega)
  have absent : (t.driveSync false).partnerAbsent = true := by
    simp [State.partnerAbsent, turned, h.level, active, slave.paired]
  have now : (t.driveSync false).InRunTick (k - n) := { h.run with }
  have noMatch := (t.driveSync false).matchIndex_of_disabled (by simpa [active] using slave.disabled)
  obtain ⟨u', hu', idle, cause, -, -, cycles, -⟩ :=
    exists_step_runningTimeout noRun now.running (.inr noMatch) (.inr absent)
  obtain rfl : u' = u := Host.Outcome.next.inj (hu'.symm.trans hu)
  refine ⟨idle, cause, ?_⟩
  rw [cycles, now.nCycles_next, State.driveSync_active, active, show k - n + 1 = D by omega]

/-- A slave that has started n ticks on, under a trigger of D ticks, is IDLE n ticks after the trigger's end, with the
cycles of D ticks counted. -/
theorem Pair.slave_ends {p : Pair} {n D : Nat} (slave : LockStepSlave p.two n D) (positive : 1 ≤ n) (atLeast : n ≤ D)
    (trigger : ∀ k q, k < D + n → Pair.run k p = .next q → q.one.syncO = decide (k < D))
    (start : ∃ q, Pair.run n p = .next q ∧ StartedRun p.two n q.two) :
    ∃ q, Pair.run (D + n) p = .next q ∧ q.two.phase = .idle ∧ q.two.exitCause = .timeout ∧
      q.two.nCycles.toNat = D / p.two.active.cycleLength.toNat % 16384 := by
  obtain ⟨m, hm⟩ : ∃ m, D + n = m + 1 := Nat.exists_eq_add_one.mpr (by omega)
  obtain ⟨q₀, hq₀, started⟩ := start
  obtain ⟨q, hq, follow⟩ := Pair.run_induction (n := m) (P := fun k q => InFollowTick p.two n D k q.two)
    ⟨q₀, hq₀, started.inFollowTick slave atLeast⟩
    (fun k q r began hk hq _ both follow =>
      follow.next slave began (by omega) (trigger k q (by omega) hq ▸ both.two))
    m (by omega) le_rfl
  obtain ⟨r, hr, -, two⟩ := q.exists_tick
  have low : q.one.syncO = false := (trigger m q (by omega) hq).trans (decide_eq_false (by omega))
  exact ⟨r, hm ▸ Pair.run_snoc m p q r hq hr, follow.ends slave (by omega) hm.symm (low ▸ two)⟩

/-- Settles O59: the trigger is high for the master's D ticks, and the slave's filter delays both of its ends alike. -/
theorem pairCountsAgree : Obligations.PairCountsAgree := by
  intro p n D inv₁ inv₂ filter atLeast running₁ master paired₁ elapsed₁ cycleTime₁ nCycles₁ armed _ level count
    sameLength disabled waitTime runTime quiet₁ quiet₂ runs ends
  have positive : 1 ≤ n := filter ▸ Nat.one_le_of_lt inv₂.filterCount
  obtain ⟨-, cycle₁, -⟩ := inv₁.busyConfig (by simp [running₁])
  obtain ⟨-, cycle₂, -⟩ := inv₂.busyConfig (by simp [armed])
  obtain ⟨paired₂, -, nCycles₂, -⟩ := inv₂.armedClean armed
  have masters := Pair.exists_masterTicks
    ⟨running₁, cycle₁, by simp [cycleTime₁], by simp [elapsed₁], by simp [nCycles₁]⟩ (by omega) quiet₁ runs ends
  have trigger : ∀ k q, k < D + n → Pair.run k p = .next q → q.one.syncO = decide (k < D) := by
    intro k q hk hq
    obtain ⟨q', hq', ticks⟩ := masters k hk.le
    obtain rfl : q' = q := Host.Outcome.next.inj (hq'.symm.trans hq)
    exact ticks.syncO paired₁ master
  have triggered : p.Triggered n := ⟨filter, armed, level, count, waitTime, quiet₂.mono (by omega),
    fun k q hk hq => (trigger k q (by omega) hq).trans (decide_eq_true (by omega))⟩
  have slave : LockStepSlave p.two n D := ⟨filter, paired₂, cycle₂, disabled, runTime, nCycles₂, quiet₂⟩
  obtain ⟨q, hq, idle₂, cause, cycles₂⟩ := Pair.slave_ends slave positive atLeast trigger (triggered.starts positive)
  obtain ⟨q', hq', ticks⟩ := masters (D + n) le_rfl
  obtain rfl : q' = q := Host.Outcome.next.inj (hq'.symm.trans hq)
  obtain ⟨idle₁, cycles₁⟩ := ticks.ended (Nat.le_add_right D n)
  exact ⟨q', hq, idle₁, idle₂, BitVec.eq_of_toNat_eq (by rw [cycles₁, cycles₂, sameLength]), cause, cycles₂⟩

end Sys2Proof.Machine
end

section
/-! The family 45_tick_step.md: a tick whose ports carry an operation is that operation's meaning (R262), and the edge
with rst = 1 (R264). -/

namespace Sys2Proof.Machine

/-- Settles O9: with rst low and an operation on the ports, step takes its operation branch, which is exec alone. -/
theorem stepRunsDecoded : Obligations.StepRunsDecoded := step_of_operation

theorem step_of_reset (s : State) (hr : s.inputNow.rst = true) : step s = .next s.resetEdge := if_pos hr

/-- The reset edge carries over nothing of the state before but the model's own fields (log 15). -/
theorem State.resetEdge_ownFields_reset (s : State) :
    { s.resetEdge with
      params := State.reset.params
      rdata := State.reset.rdata
      script := State.reset.script
      freeCount := State.reset.freeCount } = State.reset := rfl

/-- Settles O12: rst is looked at before the bus, so the tick is the reset edge, and its word on bus_rdata is that of
every tick. -/
theorem resetEdge : Obligations.ResetEdge := fun s hr =>
  have edge : step s = .next s.resetEdge := step_of_reset s hr
  ⟨s.resetEdge, edge, step_rdata s s.resetEdge edge, s.resetEdge_ownFields_reset⟩

end Sys2Proof.Machine
end

section
/-! The family 60_exceptions.md: CORE raises nothing across the register boundary, so every tick has a next state
(R280, R281). -/

namespace Sys2Proof.Machine

/-- Settles O8: by the branches of step: the reset edge, the meaning of an operation, which has a next state by
exec_total, and the tick without one. -/
theorem stepIsTotal : Obligations.StepIsTotal := step_total

end Sys2Proof.Machine
end

section
/-! The family 70_reset_and_hazards.md: what the reset state holds, drives and returns, and the Run write it refuses
(R310, R311). -/

namespace Sys2Proof.Machine

/-! ## The reset bank (R23, R24) -/

theorem Bank.reset_heralds_get (k : Fin 4) : Bank.reset.heralds.get k = Herald.off := by
  fin_cases k <;> rfl

theorem Bank.reset_windows_get (j : Fin 8) : Bank.reset.windows.get j = Window.inactive := by
  fin_cases j <;> rfl

/-! ## The readable registers at reset -/

theorem State.statusWord_reset : State.reset.statusWord = 0 := rfl

theorem State.nCyclesWord_reset : State.reset.nCyclesWord = 0 := rfl

theorem State.timestampWord_reset (i : Fin 5) : State.reset.timestampWord i = 0 :=
  congrArg (BitVec.zeroExtend 32) (noTimes_get i)

/-- A read returns Status, NCycles, a timestamp or the 0 of a reserved address (R116 to R120), each 0 at reset. -/
theorem State.regRead_reset (a : Addr) : State.reset.regRead a = 0 := by
  unfold State.regRead
  split
  · exact State.statusWord_reset
  · exact State.nCyclesWord_reset
  iterate 5 exact State.timestampWord_reset _
  rfl

/-- Settles O13: the elements hold what R48 gives them, IDLE holds every output at 0, and a Run write finds the persisted
bank disabled (R112 step 4). -/
theorem resetState : Obligations.ResetState := by
  have refused (T : Word) :=
    exec_wrRun_of_runWrite (State.reset.runWrite_of_refused T (.inl (rfl : Bank.reset.enable = false)))
  exact ⟨rfl, rfl, rfl, rfl, rfl, rfl, rfl, rfl, rfl, rfl, rfl, rfl, rfl, rfl, rfl, rfl, rfl, rfl, rfl, rfl,
    Bank.reset_heralds_get, Bank.reset_windows_get, State.regRead_reset,
    fun c => State.reset.outLine_of_not_running c nofun, State.reset.syncO_of_idle rfl,
    fun T => ⟨_, refused T, rfl, rfl⟩⟩

end Sys2Proof.Machine
end
